-- ==== Sys2Proof/Word.lean ====
section
/-! DEFINITION. The two word types of the machine: a byte and a 16-bit word (00_scope.md R5). -/

namespace Sys2Proof

/-- A data word: ACCA, ACCB, a memory byte, an opcode (R5). -/
abbrev Byte := BitVec 8

/-- A 16-bit value: D, IX, SP, PC, an address (R5). -/
abbrev Word := BitVec 16

end Sys2Proof
end

