-- ==== Sys2Proof/Config.lean ====
section
/-! DEFINITION. The free values of the machine: what the spec leaves open, with no body, so that nothing can be proved
of a value. Each is applied to the counter `draws` of State, which a draw advances (assumption log 5). -/

namespace Sys2Proof.Config

/-- A byte the spec does not fix: both results of IDIV by zero (R143), Hidden after MUL and IDIV (R45), what OUT1, OUT2
and the reset bits of IRQCTL and TMRCTL read as (R38, R40), bits 7 and 6 of a pushed CCR byte (R28). -/
opaque freeByte : Nat → Byte

/-- A bit the spec does not fix: H after a 16-bit arithmetic instruction (P_H16, R310), and whether recognition waits for
one more instruction after CLI or RTI (R353). -/
opaque freeBit : Nat → Bool

/-- A choice the spec does not fix: which of several pending enabled sources is taken (P_IRQ_PRIORITY, R354). -/
opaque freeChoice : Nat → Nat

end Sys2Proof.Config
end

