-- ==== Sys2Proof/Machine/Bits.lean ====
section
/-! DEFINITION. Byte order, zero and sign extension (00_scope.md R7, R8; 20_memory.md R64). -/

namespace Sys2Proof

/-- `zext_16` of a byte (R8). -/
def zext16 (b : Byte) : Word := b.setWidth 16

/-- `sext_16` of a byte (R8). -/
def sext16 (b : Byte) : Word := b.signExtend 16

/-- `w[15:8]`, the byte at the lower address (R64). -/
def hiByte (w : Word) : Byte := w.extractLsb' 8 8

/-- `w[7:0]`, the byte at the higher address (R64). -/
def loByte (w : Word) : Byte := w.extractLsb' 0 8

/-- The concatenation of a high and a low byte (R7). -/
def joinBytes (hi lo : Byte) : Word := hi ++ lo

/-- A byte with bit k set to b. -/
def setBit (k : Nat) (b : Bool) (x : Byte) : Byte := if b then x ||| ((1 : Byte) <<< k) else x &&& ~~~((1 : Byte) <<< k)

end Sys2Proof
end

