-- ==== Sys2Proof/Machine/Ccr.lean ====
section
/-! DEFINITION. The condition code register (10_state.md R27). -/

namespace Sys2Proof.Machine

/-- The condition code register: six 1-bit flags (R27). No instruction moves the CCR whole but for the stacked byte (R28). -/
structure Ccr where
  /-- Half carry, written by 16-bit arithmetic and RTI only (R31). -/
  h : Bool
  /-- Interrupt mask: 1 disables the four hardware interrupts (R29). -/
  i : Bool
  /-- Most significant bit of the result (R27). -/
  n : Bool
  /-- Result is zero (R27). -/
  z : Bool
  /-- Two's-complement overflow (R27). -/
  v : Bool
  /-- Carry, borrow, or the bit shifted out (R27). -/
  c : Bool
  deriving DecidableEq, Repr

end Sys2Proof.Machine
end

