-- ==== Sys2Proof/Machine/Params.lean ====
section
/-! DEFINITION. The configuration of the machine: the named parameters of 00_scope.md R6, one field each, and the values they
have. The open ones (P_H16, P_IRQ_PRIORITY, P_PRESCALER, P_TIMER, P_RESET_OTHER) are free values (Config.lean), ticks of the
environment or reset values of State; P_NUM_BASE concerns the assembler only. -/

namespace Sys2Proof

open Sys2Proof.Machine

/-- P_CCR_LAYOUT: the bit of the stacked CCR byte that holds each flag (R28). -/
structure CcrLayout where
  /-- The bit of H. -/
  h : Nat
  /-- The bit of I. -/
  i : Nat
  /-- The bit of N. -/
  n : Nat
  /-- The bit of Z. -/
  z : Nat
  /-- The bit of V. -/
  v : Nat
  /-- The bit of C. -/
  c : Nat
  deriving DecidableEq, Repr

/-- P_IRQ_POLARITY: the level at which each kind of control bit acts, and whether a reset bit acts on (R38). -/
structure IrqPolarity where
  /-- The value of an Enable bit of IRQCTL that enables its source. -/
  enable : Bool
  /-- The value of a Reset bit of IRQCTL that clears its source's pending flag. -/
  reset : Bool
  /-- The value of a Timer Enable bit of TMRCTL that enables its timer. -/
  timerEnable : Bool
  /-- The value of a Timer Reset bit of TMRCTL that zeroes its count. -/
  timerReset : Bool
  /-- Whether a reset bit acts at its write only; else it acts at every boundary at which it stands at its level. -/
  selfClearing : Bool
  deriving DecidableEq, Repr

/-- The parameters of R6 that have a default. -/
structure Params where
  /-- P_IXP_OFFSET: whether an IX+ instruction carries an offset byte (R110). -/
  ixpOffset : Bool
  /-- P_IXP_STEP(n): what an IX+ access of n bytes adds to IX (R110). -/
  ixpStep : Nat → Word
  /-- P_CCR_LAYOUT (R28). -/
  ccrLayout : CcrLayout
  /-- P_MUL_CCR: the CCR after MUL of A and B (R144). -/
  mulCcr : Ccr → Byte → Byte → Ccr
  /-- P_IDIV: A and B after IDIV of A by a B that is not zero (R143). -/
  idiv : Byte → Byte → Byte × Byte
  /-- P_IDIV: the CCR after IDIV of A by B (R143). -/
  idivCcr : Ccr → Byte → Byte → Ccr
  /-- P_BRBIT_C: C after a bit test of a memory byte with a mask (R267, R268). -/
  brbitC : Byte → Byte → Bool
  /-- P_IRQ_POLARITY (R38). -/
  irqPolarity : IrqPolarity
  /-- P_RESET_PC: PC after reset (R50, R391). -/
  resetPc : Word
  /-- P_RAM: the addresses that hold read/write memory (R70). -/
  isRam : Word → Bool
  /-- P_C1_ALT: whether 0x7D is CPD and 0x7E is SUBD (R102, conflict C1). -/
  c1Alt : Bool
  /-- P_C8_ALT: whether the two control registers are exchanged between 0x8000 and 0x8001 (R36, conflict C8). -/
  c8Alt : Bool

/-- The configuration of this machine: every parameter at the default of R6, the spec's own choice (decisions D5, D10, D14,
D15, D21, D27, D32, D40, conflicts C1 and C8). UNVERIFIED; unsafe; log 3, log 16, log 18 to log 23, log 28, log 30. -/
def params : Params where
  ixpOffset := false
  ixpStep n := BitVec.ofNat 16 n
  ccrLayout := { h := 5, i := 4, n := 3, z := 2, v := 1, c := 0 }
  mulCcr ccr _ _ := ccr
  idiv a b := (a / b, a % b)
  idivCcr ccr _ _ := ccr
  brbitC m mask := decide (m &&& mask ≠ 0)
  irqPolarity := { enable := true, reset := true, timerEnable := true, timerReset := true, selfClearing := true }
  resetPc := 0x0100
  isRam a := decide (a.toNat < 0x8000)
  c1Alt := false
  c8Alt := false

end Sys2Proof
end

