-- ==== Sys2Proof/Machine/State.lean ====
section
/-! DEFINITION. The state of the machine as plain data, the reasons a step can stop, and the state after reset.
Every piece of state of 10_state.md and 60_exceptions.md stands here; the model's own fields are marked so. -/

namespace Sys2Proof.Machine

/-- RAM: (address, byte) pairs in one canonical form, `Memory.wf` (R46, R70). -/
abbrev Memory := List Host.Cell

/-- Whether the processor fetches, waits for an interrupt, or has ended its run (R365, R366). -/
inductive RunState where
  /-- Fetching and executing. -/
  | running
  /-- After WAIT: no fetch until an interrupt is recognised (R365). -/
  | waiting
  /-- After STOP: the run has ended (R366). -/
  | stopped
  deriving DecidableEq, Repr

/-- The four hardware interrupt sources (R344). -/
inductive Source where
  /-- External interrupt input 1. -/
  | ext1
  /-- External interrupt input 2. -/
  | ext2
  /-- Timer 1. -/
  | t1
  /-- Timer 2. -/
  | t2
  deriving DecidableEq, Repr

/-- The two output ports (R361). -/
inductive OutPort where
  /-- OUT1, 0x8006. -/
  | out1
  /-- OUT2, 0x8007. -/
  | out2
  deriving DecidableEq, Repr

/-- The fourteen memory-mapped registers, by the names of R35. -/
inductive MmReg where
  | irqctl | tmrctl | t1perH | t1perL | t2perH | t2perL | out1 | out2 | in1 | in2 | t1cntH | t1cntL | t2cntH | t2cntL
  deriving DecidableEq, Repr

/-- The memory-mapped registers (R35) and the pending flags behind them (R350). -/
structure Devices where
  /-- IRQCTL as last written (R36). -/
  irqctl : Byte
  /-- TMRCTL as last written (R37). -/
  tmrctl : Byte
  /-- T1PER[15:8] (R39). -/
  t1perH : Byte
  /-- T1PER[7:0] (R39). -/
  t1perL : Byte
  /-- T2PER[15:8] (R39). -/
  t2perH : Byte
  /-- T2PER[7:0] (R39). -/
  t2perL : Byte
  /-- The byte OUT1 presents (R40). -/
  out1 : Byte
  /-- The byte OUT2 presents (R40). -/
  out2 : Byte
  /-- The byte the environment presents on input port 1 (R41). -/
  in1 : Byte
  /-- The byte the environment presents on input port 2 (R41). -/
  in2 : Byte
  /-- What the device supplies for T1CNT[15:8] (R360). -/
  t1cntH : Byte
  /-- What the device supplies for T1CNT[7:0] (R360). -/
  t1cntL : Byte
  /-- What the device supplies for T2CNT[15:8] (R360). -/
  t2cntH : Byte
  /-- What the device supplies for T2CNT[7:0] (R360). -/
  t2cntL : Byte
  /-- pending[EXT1] (R350). -/
  pendExt1 : Bool
  /-- pending[EXT2] (R350). -/
  pendExt2 : Bool
  /-- pending[T1] (R350). -/
  pendT1 : Bool
  /-- pending[T2] (R350). -/
  pendT2 : Bool
  /-- Every byte written to an output port, newest first: the observable output (R361; log 24). -/
  outputs : List (OutPort × Byte)
  deriving DecidableEq, Repr

/-- What the environment and the timers do at one instruction boundary (R81, R350, R360, R361, R370; log 6, log 7). -/
structure EnvTick where
  /-- An event on external interrupt input 1 (R370). -/
  reqExt1 : Bool
  /-- An event on external interrupt input 2 (R370). -/
  reqExt2 : Bool
  /-- Timer 1 asks to set its flag (R360). -/
  reqT1 : Bool
  /-- Timer 2 asks to set its flag (R360). -/
  reqT2 : Bool
  /-- The byte now presented on input port 1 (R361). -/
  in1 : Byte
  /-- The byte now presented on input port 2 (R361). -/
  in2 : Byte
  /-- The byte timer 1 now supplies as T1CNT[15:8] (R360). -/
  t1cntH : Byte
  /-- The byte timer 1 now supplies as T1CNT[7:0] (R360). -/
  t1cntL : Byte
  /-- The byte timer 2 now supplies as T2CNT[15:8] (R360). -/
  t2cntH : Byte
  /-- The byte timer 2 now supplies as T2CNT[7:0] (R360). -/
  t2cntL : Byte
  deriving DecidableEq, Repr

/-- The machine's state (R20, R45, R46, R350; INVENTORY.md, State). -/
structure State where
  /-- ACCA (R21). -/
  a : Byte
  /-- ACCB (R21). -/
  b : Byte
  /-- The index register (R23). -/
  ix : Word
  /-- The stack pointer: the next free byte (R24, R12). -/
  sp : Word
  /-- The program counter (R25). -/
  pc : Word
  /-- The condition code register (R27). -/
  ccr : Ccr
  /-- RAM (R46). -/
  mem : Memory
  /-- The MM registers and the pending flags (R34, R350). -/
  dev : Devices
  /-- Running, waiting or stopped (R365, R366). -/
  run : RunState
  /-- The Opcode register: at a boundary the next instruction's opcode, loaded ahead (R45, R402, R412; log 26). -/
  opcode : Byte
  /-- The second opcode register, which feeds the CCR decoder: the opcode in execution, at a boundary the last one (R45, R413;
  log 26). -/
  ccrOpcode : Byte
  /-- The Hidden register of MUL and IDIV (R45). -/
  hidden : Byte
  /-- The MODEL's own: the RAM addresses stored to by the instruction just executed (R84, R402; log 10). -/
  stores : List Word
  /-- The MODEL's own: recognition may come one instruction late (R353; log 9). -/
  irqLag : Bool
  /-- The MODEL's own: what the environment does at the boundaries to come (R350; log 6). -/
  env : List EnvTick
  /-- The MODEL's own: how many free values have been drawn (log 5). -/
  draws : Nat
  deriving DecidableEq, Repr

/-- Why a step stops where the spec gives no further behaviour. -/
inductive Fault where
  /-- Raised by any byte access at 0x800E to 0xFFFF and by a fetch at 0x8000 to 0x800D (R74, R75, R372). Safe. -/
  | invalidAccess (addr : Word)
  /-- Raised on decoding one of the eleven empty opcodes (R120, R372). Safe. -/
  | illegalOpcode (op : Byte)
  /-- Raised by the fetch of an opcode byte that the previous instruction stored to (R84, R402). Safe. -/
  | opcodeOverwritten (addr : Word)
  /-- Raised by a step of a machine that has executed STOP: the run has ended (R366). Safe. -/
  | runEnded
  deriving DecidableEq, Repr

/-- Why a step is refused: an effect on a device that the spec does not give. -/
inductive Refusal where
  /-- Raised by exec's arm of an instruction that has no meaning in the model; no arm is one. Safe. -/
  | notModelled (mnemonic : String)
  /-- Raised by a write to IN1, IN2, T1CNT or T2CNT, whose effect the spec does not give (R41, D44, U-22). Safe. -/
  | inputRegisterWrite (addr : Word)
  /-- Raised by TST of an MM register, where a write-back would be observable (R245, U-21). Safe. -/
  | testOfDevice (addr : Word)
  deriving DecidableEq, Repr

/-- The devices after reset. The spec gives no value (R50). DESIGN CHOICE zero; unsafe; log 1. -/
def Devices.reset : Devices :=
  { irqctl := 0, tmrctl := 0, t1perH := 0, t1perL := 0, t2perH := 0, t2perL := 0, out1 := 0, out2 := 0, in1 := 0, in2 := 0
    t1cntH := 0, t1cntL := 0, t2cntH := 0, t2cntL := 0
    pendExt1 := false, pendExt2 := false, pendT1 := false, pendT2 := false, outputs := [] }

/-- The machine right after reset: PC at P_RESET_PC (R50, R391), memory with nothing listed, fetching. The spec gives no
other value: zero (DESIGN CHOICE; unsafe; log 1), and for SP the highest stack top that leaves the SWI vector intact
(R192, R392; DESIGN CHOICE; unsafe; log 2). -/
def State.reset : State :=
  { a := 0, b := 0, ix := 0, sp := 0x7FF5, pc := params.resetPc
    ccr := { h := false, i := false, n := false, z := false, v := false, c := false }
    mem := [], dev := Devices.reset, run := .running, opcode := 0, ccrOpcode := 0, hidden := 0
    stores := [], irqLag := false, env := [], draws := 0 }

end Sys2Proof.Machine
end

