-- ==== Sys2Proof/Machine/Flags.lean ====
section
/-! DEFINITION. Every flag computation of the spec: ADD_n, SUB_n, LOGIC_n (00_scope.md R14), the one-operand operations
(43_read_modify_write.md), MUL, IDIV, the bit tests, and the CCR byte (10_state.md R28). -/

namespace Sys2Proof.Machine

/-- The result and flags of ADD_n or SUB_n (R14). -/
structure AluOut (w : Nat) where
  /-- The w-bit result. -/
  r : BitVec w
  /-- Carry or borrow. -/
  c : Bool
  /-- Two's-complement overflow. -/
  v : Bool
  /-- Sign of the result. -/
  n : Bool
  /-- The result is zero. -/
  z : Bool
  deriving DecidableEq, Repr

/-- `ADD_n(a, b, cin)` (R14): the exact sum, narrowed at the end. -/
def addFlags {w : Nat} (a b : BitVec w) (cin : Bool) : AluOut w :=
  let s := a.toNat + b.toNat + cin.toNat
  let r := BitVec.ofNat w s
  { r := r, c := decide (2 ^ w ≤ s), v := a.msb == b.msb && r.msb != a.msb, n := r.msb, z := decide (r = 0) }

/-- `SUB_n(a, b, bin)` (R14): the exact difference, narrowed at the end. C is the borrow. -/
def subFlags {w : Nat} (a b : BitVec w) (bin : Bool) : AluOut w :=
  let d : Int := (a.toNat : Int) - b.toNat - bin.toNat
  let r := BitVec.ofInt w d
  { r := r, c := decide (d < 0), v := a.msb != b.msb && r.msb != a.msb, n := r.msb, z := decide (r = 0) }

/-- The group "8 bits Arithmetic": V, N, Z, C (R31). -/
def Ccr.arith {w : Nat} (ccr : Ccr) (o : AluOut w) : Ccr := { ccr with c := o.c, v := o.v, n := o.n, z := o.z }

/-- The group "16bits Arithmetic": V, H, N, Z, C, H given from outside (P_H16, R31, R310). -/
def Ccr.arithH {w : Nat} (ccr : Ccr) (o : AluOut w) (h : Bool) : Ccr := { ccr.arith o with h := h }

/-- `LOGIC_n(r)`: V = 0, N, Z of the result (R14; the groups "8bits Logic" and "16bits logic" of R31). -/
def Ccr.logic {w : Nat} (ccr : Ccr) (r : BitVec w) : Ccr := { ccr with v := false, n := r.msb, z := decide (r = 0) }

/-- The group "8 bits INC/DEC": V, N, Z (R31), V given by the operation. -/
def Ccr.incDec (ccr : Ccr) (r : Byte) (v : Bool) : Ccr := { ccr with v := v, n := r.msb, z := decide (r = 0) }

/-- The group "8bits shift": C the bit shifted out, N and Z of the result, V = N xor C (43_read_modify_write.md, Shifts
and rotates). -/
def Ccr.shift (ccr : Ccr) (r : Byte) (out : Bool) : Ccr :=
  { ccr with c := out, n := r.msb, z := decide (r = 0), v := r.msb ^^ out }

/-- A one-operand operation: the byte and the old flags give the result and the new flags. -/
abbrev UnaryOp := Byte → Ccr → Byte × Ccr

/-- NEG (R216). -/
def negByte : UnaryOp := fun m ccr =>
  let r := 0 - m
  (r, { ccr with c := decide (m ≠ 0), v := decide (r = 0x80), n := r.msb, z := decide (r = 0) })

/-- CLR; C stays (R219). -/
def clrByte : UnaryOp := fun _ ccr => (0, { ccr with v := false, n := false, z := true })

/-- INC; C stays (R222). -/
def incByte : UnaryOp := fun m ccr => (m + 1, ccr.incDec (m + 1) (decide (m + 1 = 0x80)))

/-- DEC; C stays (R225). -/
def decByte : UnaryOp := fun m ccr => (m - 1, ccr.incDec (m - 1) (decide (m - 1 = 0x7F)))

/-- LSR: `{0, m[7:1]}`, C = m[0] (R228). -/
def lsrByte : UnaryOp := fun m ccr =>
  let r : Byte := BitVec.cons false (m.extractLsb' 1 7)
  (r, ccr.shift r (m.getLsbD 0))

/-- ROR: `{c, m[7:1]}` with the old C, C = m[0] (R231). -/
def rorByte : UnaryOp := fun m ccr =>
  let r : Byte := BitVec.cons ccr.c (m.extractLsb' 1 7)
  (r, ccr.shift r (m.getLsbD 0))

/-- ASR: `{m[7], m[7:1]}`, C = m[0] (R234). -/
def asrByte : UnaryOp := fun m ccr =>
  let r : Byte := BitVec.cons m.msb (m.extractLsb' 1 7)
  (r, ccr.shift r (m.getLsbD 0))

/-- LSL: `{m[6:0], 0}`, C = m[7] (R237). -/
def lslByte : UnaryOp := fun m ccr =>
  let r : Byte := BitVec.concat (m.extractLsb' 0 7) false
  (r, ccr.shift r m.msb)

/-- ROL: `{m[6:0], c}` with the old C, C = m[7] (R240). -/
def rolByte : UnaryOp := fun m ccr =>
  let r : Byte := BitVec.concat (m.extractLsb' 0 7) ccr.c
  (r, ccr.shift r m.msb)

/-- BRSET and BRCLR: Z from the tested byte t, C by P_BRBIT_C (R267, R268, decision D21; log 28). -/
def Ccr.bitTest (ccr : Ccr) (m mask t : Byte) : Ccr := { ccr with z := decide (t = 0), c := params.brbitC m mask }

/-- The CCR after MUL, by P_MUL_CCR (R144, decision D14; log 19). -/
def Ccr.afterMul (ccr : Ccr) (a b : Byte) : Ccr := params.mulCcr ccr a b

/-- The product of MUL: unsigned 8 x 8 to 16 (R144). -/
def mulWord (a b : Byte) : Word := a.setWidth 16 * b.setWidth 16

/-- A and B after IDIV by a divisor that is not zero, by P_IDIV (R143, decision D15; log 18). -/
def idivBytes (a b : Byte) : Byte × Byte := params.idiv a b

/-- The CCR after IDIV, by P_IDIV (R143, decision D15; log 18). -/
def Ccr.afterIdiv (ccr : Ccr) (a b : Byte) : Ccr := params.idivCcr ccr a b

/-- `CCRbyte()` by P_CCR_LAYOUT: the six flags in their bits, the other bits those of a free byte (R28, decision D10;
log 16). -/
def Ccr.toByte (ccr : Ccr) (free : Byte) : Byte :=
  setBit params.ccrLayout.h ccr.h (setBit params.ccrLayout.i ccr.i (setBit params.ccrLayout.n ccr.n
    (setBit params.ccrLayout.z ccr.z (setBit params.ccrLayout.v ccr.v (setBit params.ccrLayout.c ccr.c free)))))

/-- `CCR <- byte`: the inverse of `CCRbyte()`, the other bits ignored (R28). -/
def Ccr.ofByte (x : Byte) : Ccr :=
  { h := x.getLsbD params.ccrLayout.h, i := x.getLsbD params.ccrLayout.i, n := x.getLsbD params.ccrLayout.n
    z := x.getLsbD params.ccrLayout.z, v := x.getLsbD params.ccrLayout.v, c := x.getLsbD params.ccrLayout.c }

end Sys2Proof.Machine
end

