-- ==== Sys2Proof/Machine/Ops.lean ====
section
/-! DEFINITION. The named operations over registers, memory and the stack (00_scope.md R9 to R12), the MM registers
(10_state.md R35 to R41), and taking an interrupt and returning from one (60_exceptions.md R345, R356). -/

namespace Sys2Proof.Machine

/-- What an operation answers: a value, or the reason the step stops. -/
abbrev Res (α : Type) : Type := Host.Outcome α Fault Refusal

/-- Go on with the value of an operation; a stop stays a stop. -/
def andThen {α β : Type} (x : Res α) (f : α → Res β) : Res β :=
  match x with
  | .next a => f a
  | .fault r => .fault r
  | .refused r => .refused r

/-! ## Registers -/

/-- The two accumulators (R21). -/
inductive Acc where
  | a
  | b
  deriving DecidableEq, Repr

/-- The 16-bit registers that instructions load, store and compare (R22, R23, R24). -/
inductive Reg16 where
  | d
  | ix
  | sp
  deriving DecidableEq, Repr

def State.setA (s : State) (v : Byte) : State := { s with a := v }
def State.setB (s : State) (v : Byte) : State := { s with b := v }
def State.setIx (s : State) (v : Word) : State := { s with ix := v }
def State.setSp (s : State) (v : Word) : State := { s with sp := v }
def State.setPc (s : State) (v : Word) : State := { s with pc := v }
def State.setCcr (s : State) (v : Ccr) : State := { s with ccr := v }
def State.setDev (s : State) (v : Devices) : State := { s with dev := v }
def State.setRun (s : State) (v : RunState) : State := { s with run := v }
def State.setHidden (s : State) (v : Byte) : State := { s with hidden := v }
def State.setIrqLag (s : State) (v : Bool) : State := { s with irqLag := v }
def State.setOpcode (s : State) (v : Byte) : State := { s with opcode := v }

/-- Count n more free values as drawn (log 5). -/
def State.drew (s : State) (n : Nat) : State := { s with draws := s.draws + n }

/-- `x[A]`, `x[B]` (R9). -/
def State.acc (s : State) : Acc → Byte
  | .a => s.a
  | .b => s.b

/-- `x[A] <- v`, `x[B] <- v` (R9). -/
def State.setAcc (s : State) (r : Acc) (v : Byte) : State :=
  match r with
  | .a => s.setA v
  | .b => s.setB v

/-- `x[D]` is the pair A, B with A high (R22). -/
def State.d (s : State) : Word := joinBytes s.a s.b

/-- `x[D] <- v` (R9, R22). -/
def State.setD (s : State) (v : Word) : State := (s.setA (hiByte v)).setB (loByte v)

/-- `x[D]`, `x[IX]`, `x[SP]` (R9). -/
def State.reg16 (s : State) : Reg16 → Word
  | .d => s.d
  | .ix => s.ix
  | .sp => s.sp

/-- `x[D] <- v`, `x[IX] <- v`, `x[SP] <- v` (R9). -/
def State.setReg16 (s : State) (r : Reg16) (v : Word) : State :=
  match r with
  | .d => s.setD v
  | .ix => s.setIx v
  | .sp => s.setSp v

/-! ## RAM -/

/-- What a RAM byte that nothing has written reads as: the spec gives no value (R50, R407). DESIGN CHOICE 0x00; unsafe;
log 4. -/
def Memory.unlisted : Byte := 0

/-- The byte at an address (R70). -/
def Memory.get : Memory → Nat → Byte
  | [], _ => Memory.unlisted
  | (k, v) :: rest, a => if k = a then v else Memory.get rest a

/-- Drop every entry of an address. -/
def Memory.erase : Memory → Nat → Memory
  | [], _ => []
  | (k, v) :: rest, a => if k = a then Memory.erase rest a else (k, v) :: Memory.erase rest a

/-- Put an entry before the first greater address. -/
def Memory.insert : Memory → Nat → Byte → Memory
  | [], a, x => [(a, x)]
  | (k, v) :: rest, a, x => if a < k then (a, x) :: (k, v) :: rest else (k, v) :: Memory.insert rest a x

/-- Write a byte (R70), keeping the canonical form: a byte equal to what an unlisted address reads as is not listed. -/
def Memory.set (m : Memory) (a : Nat) (x : Byte) : Memory :=
  if x = Memory.unlisted then m.erase a else (m.erase a).insert a x

/-- The canonical form: addresses strictly rising and inside P_RAM, no entry equal to what an unlisted address reads as. -/
def Memory.wf (m : Memory) : Bool :=
  decide (m.Pairwise (fun x y => x.1 < y.1)) && 
    m.all fun x => decide (x.1 < 0x10000) && params.isRam (BitVec.ofNat 16 x.1) && decide (x.2 ≠ Memory.unlisted)

/-- The RAM byte at an address. -/
def State.ram (s : State) (a : Word) : Byte := s.mem.get a.toNat

/-- A store to RAM: the byte changes, and the address is noted for the lookahead hazard (R70, R84). -/
def State.storeRam (s : State) (a : Word) (x : Byte) : State :=
  { s with mem := s.mem.set a.toNat x, stores := a :: s.stores }

/-- What the lookahead load puts into the Opcode register, `old` being the memory on which the instruction began, and how many
free values that draws (R84, R402): the opcode byte at the address of what executes next. Where the same instruction stored
to that byte, the old or the new one, since the place of the load among the micro-instructions is open (R402); outside RAM,
where the next fetch faults, a free byte (log 26). -/
def State.nextOpcode (old : Memory) (s : State) : Byte × Nat :=
  if params.isRam s.pc then
    if s.stores.contains s.pc then (if Config.freeBit s.draws then old.get s.pc.toNat else s.ram s.pc, 1)
    else (s.ram s.pc, 0)
  else (Config.freeByte s.draws, 1)

/-- The lookahead load, which an instruction or an entry that began on the memory `old` has done by its end (R402, R412). -/
def State.lookahead (old : Memory) (s : State) : State :=
  (s.setOpcode (s.nextOpcode old).1).drew (s.nextOpcode old).2

/-! ## The memory-mapped registers -/

/-- The register at an address (R35); P_C8_ALT exchanges the two control registers (R36). -/
def mmReg (a : Word) : Option MmReg :=
  match a.toNat with
  | 0x8000 => some (if params.c8Alt then .tmrctl else .irqctl)
  | 0x8001 => some (if params.c8Alt then .irqctl else .tmrctl)
  | 0x8002 => some .t1perH
  | 0x8003 => some .t1perL
  | 0x8004 => some .t2perH
  | 0x8005 => some .t2perL
  | 0x8006 => some .out1
  | 0x8007 => some .out2
  | 0x8008 => some .in1
  | 0x8009 => some .in2
  | 0x800A => some .t1cntH
  | 0x800B => some .t1cntL
  | 0x800C => some .t2cntH
  | 0x800D => some .t2cntL
  | _ => none

/-- Reading an MM register (R38 to R41, R360): the stored or supplied byte; the reset bits of IRQCTL (3:0) and TMRCTL
(1:0), and an output port, read as a free value (log 15). -/
def readMm (r : MmReg) (s : State) : Byte × State :=
  match r with
  | .irqctl => ((s.dev.irqctl &&& 0xF0) ||| (Config.freeByte s.draws &&& 0x0F), s.drew 1)
  | .tmrctl => ((s.dev.tmrctl &&& 0xFC) ||| (Config.freeByte s.draws &&& 0x03), s.drew 1)
  | .t1perH => (s.dev.t1perH, s)
  | .t1perL => (s.dev.t1perL, s)
  | .t2perH => (s.dev.t2perH, s)
  | .t2perL => (s.dev.t2perL, s)
  | .out1 => (Config.freeByte s.draws, s.drew 1)
  | .out2 => (Config.freeByte s.draws, s.drew 1)
  | .in1 => (s.dev.in1, s)
  | .in2 => (s.dev.in2, s)
  | .t1cntH => (s.dev.t1cntH, s)
  | .t1cntL => (s.dev.t1cntL, s)
  | .t2cntH => (s.dev.t2cntH, s)
  | .t2cntL => (s.dev.t2cntL, s)

/-- Whether bit k of a byte of IRQCTL enables its source (R36, P_IRQ_POLARITY). -/
def irqEnables (v : Byte) (k : Nat) : Bool := v.getLsbD k == params.irqPolarity.enable

/-- Whether bit k of a byte of IRQCTL clears its source's pending flag (R36, P_IRQ_POLARITY). -/
def irqResets (v : Byte) (k : Nat) : Bool := v.getLsbD k == params.irqPolarity.reset

/-- Whether bit k of a byte of TMRCTL enables its timer (R37, P_IRQ_POLARITY). -/
def timerEnables (v : Byte) (k : Nat) : Bool := v.getLsbD k == params.irqPolarity.timerEnable

/-- Whether bit k of a byte of TMRCTL zeroes its count (R37, P_IRQ_POLARITY). -/
def timerResets (v : Byte) (k : Nat) : Bool := v.getLsbD k == params.irqPolarity.timerReset

/-- A write to IRQCTL: the byte is stored, and each RST bit that acts clears its pending flag (R36, R351; decision D27;
log 30). -/
def Devices.writeIrqctl (d : Devices) (v : Byte) : Devices :=
  { d with
    irqctl := v
    pendExt2 := d.pendExt2 && !irqResets v 3
    pendExt1 := d.pendExt1 && !irqResets v 2
    pendT2 := d.pendT2 && !irqResets v 1
    pendT1 := d.pendT1 && !irqResets v 0 }

/-- A write to TMRCTL: the byte is stored, and a Timer Reset bit that acts forces that count to 0 (R37, R38,
R360; log 7, log 30). -/
def Devices.writeTmrctl (d : Devices) (v : Byte) : Devices :=
  { d with
    tmrctl := v
    t1cntH := if timerResets v 1 then 0 else d.t1cntH
    t1cntL := if timerResets v 1 then 0 else d.t1cntL
    t2cntH := if timerResets v 0 then 0 else d.t2cntH
    t2cntL := if timerResets v 0 then 0 else d.t2cntL }

/-- The devices after a byte is written to a register that takes writes (R35 to R40, R361); none for an input port or a
timer count, whose write the spec gives no effect (R41, D44). -/
def Devices.write (d : Devices) (r : MmReg) (v : Byte) : Option Devices :=
  match r with
  | .irqctl => some (d.writeIrqctl v)
  | .tmrctl => some (d.writeTmrctl v)
  | .t1perH => some { d with t1perH := v }
  | .t1perL => some { d with t1perL := v }
  | .t2perH => some { d with t2perH := v }
  | .t2perL => some { d with t2perL := v }
  | .out1 => some { d with out1 := v, outputs := (.out1, v) :: d.outputs }
  | .out2 => some { d with out2 := v, outputs := (.out2, v) :: d.outputs }
  | .in1 => none
  | .in2 => none
  | .t1cntH => none
  | .t1cntL => none
  | .t2cntH => none
  | .t2cntL => none

/-! ## Memory access (R10) -/

/-- `MemRead(a, 1)` by the region rules R70, R73, R74. -/
def read8 (a : Word) (s : State) : Res (Byte × State) :=
  if params.isRam a then .next (s.ram a, s)
  else
    match mmReg a with
    | some r => .next (readMm r s)
    | none => .fault (.invalidAccess a)

/-- `MemWrite(a, 1, v)` by the region rules R70, R73, R74; a write to an input register is refused (R41; log 13). -/
def write8 (a : Word) (v : Byte) (s : State) : Res State :=
  if params.isRam a then .next (s.storeRam a v)
  else
    match mmReg a with
    | some r =>
      match s.dev.write r v with
      | some d => .next (s.setDev d)
      | none => .refused (.inputRegisterWrite a)
    | none => .fault (.invalidAccess a)

/-- `MemRead(a, 2)`: the byte at a is the high one; ascending order (R10, R64, R69). -/
def read16 (a : Word) (s : State) : Res (Word × State) :=
  andThen (read8 a s) fun h => andThen (read8 (a + 1) h.2) fun l => .next (joinBytes h.1 l.1, l.2)

/-- `MemWrite(a, 2, v)`: the high byte at a; ascending order (R10, R64, R69). -/
def write16 (a : Word) (v : Word) (s : State) : Res State :=
  andThen (write8 a (hiByte v) s) fun t => write8 (a + 1) (loByte v) t

/-! ## The stack (R12) -/

/-- `Push8(v)`. -/
def push8 (v : Byte) (s : State) : Res State := andThen (write8 s.sp v s) fun t => .next (t.setSp (t.sp - 1))

/-- `Pull8()`. -/
def pull8 (s : State) : Res (Byte × State) := read8 (s.sp + 1) (s.setSp (s.sp + 1))

/-- `Push16(v)`: the low byte first, at the higher address. -/
def push16 (v : Word) (s : State) : Res State := andThen (push8 (loByte v) s) (push8 (hiByte v))

/-- `Pull16()`: the high byte first. -/
def pull16 (s : State) : Res (Word × State) :=
  andThen (pull8 s) fun h => andThen (pull8 h.2) fun l => .next (joinBytes h.1 l.1, l.2)

/-! ## Taking an interrupt and returning from one -/

/-- The address of the SWI vector (R343). -/
def swiVector : Word := 0x7FF6

/-- `CCRbyte()` with its bits that hold no flag drawn free (R28; log 16), and the state after the draw. -/
def State.drawCcrByte (s : State) : Byte × State :=
  (s.ccr.toByte (Config.freeByte s.draws), s.drew 1)

/-- `TrapEntry(vector)` (R345), `pc` holding the return address: push PC, IX and the pair CCR byte, A; then I becomes 1,
and PC the word at the vector. -/
def trapEntry (vector : Word) (s : State) : Res State :=
  andThen (push16 s.pc s) fun s1 =>
  andThen (push16 s1.ix s1) fun s2 =>
  andThen (push16 (joinBytes s2.drawCcrByte.1 s2.a) s2.drawCcrByte.2) fun s3 =>
  andThen (read16 vector (s3.setCcr { s3.ccr with i := true })) fun p =>
  .next (p.2.setPc p.1)

/-- The return from an interrupt (R204, R356): pull the CCR byte and A, then IX, then PC. Where it restores I = 0,
recognition may come one instruction late (R353; log 9). -/
def trapReturn (s : State) : Res State :=
  andThen (pull16 s) fun t =>
  andThen (pull16 ((t.2.setCcr (Ccr.ofByte (hiByte t.1))).setA (loByte t.1))) fun x =>
  andThen (pull16 (x.2.setIx x.1)) fun p =>
  .next ((p.2.setPc p.1).setIrqLag (!p.2.ccr.i))

end Sys2Proof.Machine
end

