-- ==== Sys2Proof/Machine/Operands.lean ====
section
/-! DEFINITION. Every operand form of 30_encoding.md R104 to R111: effective addresses, and how a form's operand reaches
an operation (45_regmem_8bit.md R280, 46_regmem_16bit_subroutine.md R310, 43_read_modify_write.md R215). -/

namespace Sys2Proof.Machine

/-- DIR: `ea = zext_16(addr)` (R107). -/
def eaDir (addr : Byte) : Word := zext16 addr

/-- IX: `ea = x[IX] + zext_16(off)` (R109). -/
def eaIx (off : Byte) (s : State) : Word := s.ix + zext16 off

/-- IX+: `ea = x[IX]`, plus the offset byte where the form carries one (R110). -/
def eaIxp (off : Option Byte) (s : State) : Word :=
  match off with
  | none => s.ix
  | some o => s.ix + zext16 o

/-- IX+: after the instruction's own effects, IX advances by P_IXP_STEP of the bytes accessed (R110, R280, R310). -/
def postInc (n : Nat) (x : Res State) : Res State := andThen x fun t => .next (t.setIx (t.ix + params.ixpStep n))

/-- An operation on the byte read at ea (R280). -/
def load8 (ea : Word) (f : Byte → State → State) (s : State) : Res State :=
  andThen (read8 ea s) fun p => .next (f p.1 p.2)

/-- An operation on the word read at ea (R310). -/
def load16 (ea : Word) (f : Word → State → State) (s : State) : Res State :=
  andThen (read16 ea s) fun p => .next (f p.1 p.2)

/-- A one-operand operation on an accumulator (R215). -/
def rmwAcc (r : Acc) (f : UnaryOp) (s : State) : State :=
  (s.setAcc r (f (s.acc r) s.ccr).1).setCcr (f (s.acc r) s.ccr).2

/-- A one-operand operation on the memory byte at ea: read, then write, then the flags (R215). -/
def rmw8 (ea : Word) (f : UnaryOp) (s : State) : Res State :=
  andThen (read8 ea s) fun p =>
  andThen (write8 ea (f p.1 p.2.ccr).1 p.2) fun t =>
  .next (t.setCcr (f p.1 p.2.ccr).2)

/-- REL: a taken branch adds the sign-extended offset to the address of the next instruction (R105, R160). -/
def branchIf (cond : Bool) (rel : Byte) (s : State) : State := if cond then s.setPc (s.pc + sext16 rel) else s

end Sys2Proof.Machine
end

