-- ==== Sys2Proof/Syntax.lean ====
section
/-! DEFINITION. The instructions: one constructor per row of spec/opcode_table.json, in the table's order but for NOP, which
stands last (Lean's compiler takes no constructor with fields past the 244th) (30_encoding.md R100), with the operand bytes of its form (R104 to R112): `rel` a relative offset, `v` and `imm` an 8-bit and `w` a 16-bit
immediate, `addr` an address (8 bits for DIR, 16 for EXT), `off` an indexed offset (for IX+, present only if P_IXP_OFFSET),
`m` a mask or data byte. -/

namespace Sys2Proof

/-- An instruction of the opcode map (R100). -/
inductive Instr where
  /-- STOP, INH, opcode 0x01 (R142). -/
  | stop
  /-- DABNZ, REL, opcode 0x02 (R162). -/
  | dabnz (rel : Byte)
  /-- DBBNZ, REL, opcode 0x03 (R163). -/
  | dbbnz (rel : Byte)
  /-- BRN, REL, opcode 0x04 (R164). -/
  | brn (rel : Byte)
  /-- BRA, REL, opcode 0x05 (R165). -/
  | bra (rel : Byte)
  /-- BIL, REL, opcode 0x06 (R166). -/
  | bil (rel : Byte)
  /-- BIH, REL, opcode 0x07 (R167). -/
  | bih (rel : Byte)
  /-- IDIV, INH, opcode 0x08 (R143). -/
  | idiv
  /-- MUL, INH, opcode 0x09 (R144). -/
  | mul
  /-- CLV, INH, opcode 0x0A (R145). -/
  | clv
  /-- SEV, INH, opcode 0x0B (R146). -/
  | sev
  /-- CLC, INH, opcode 0x0C (R147). -/
  | clc
  /-- SEC, INH, opcode 0x0D (R148). -/
  | sec
  /-- CLI, INH, opcode 0x0E (R149). -/
  | cli
  /-- SEI, INH, opcode 0x0F (R150). -/
  | sei
  /-- BHCC, REL, opcode 0x10 (R168). -/
  | bhcc (rel : Byte)
  /-- BHCS, REL, opcode 0x11 (R169). -/
  | bhcs (rel : Byte)
  /-- BHI, REL, opcode 0x12 (R170). -/
  | bhi (rel : Byte)
  /-- BLS, REL, opcode 0x13 (R171). -/
  | bls (rel : Byte)
  /-- BCC, REL, opcode 0x14 (R172). -/
  | bcc (rel : Byte)
  /-- BCS, REL, opcode 0x15 (R173). -/
  | bcs (rel : Byte)
  /-- BNE, REL, opcode 0x16 (R174). -/
  | bne (rel : Byte)
  /-- BEQ, REL, opcode 0x17 (R175). -/
  | beq (rel : Byte)
  /-- BVC, REL, opcode 0x18 (R176). -/
  | bvc (rel : Byte)
  /-- BVS, REL, opcode 0x19 (R177). -/
  | bvs (rel : Byte)
  /-- BPL, REL, opcode 0x1A (R178). -/
  | bpl (rel : Byte)
  /-- BMI, REL, opcode 0x1B (R179). -/
  | bmi (rel : Byte)
  /-- BGE, REL, opcode 0x1C (R180). -/
  | bge (rel : Byte)
  /-- BLT, REL, opcode 0x1D (R181). -/
  | blt (rel : Byte)
  /-- BGT, REL, opcode 0x1E (R182). -/
  | bgt (rel : Byte)
  /-- BLE, REL, opcode 0x1F (R183). -/
  | ble (rel : Byte)
  /-- TSX, INH, opcode 0x20 (R191). -/
  | tsx
  /-- TXS, INH, opcode 0x21 (R192). -/
  | txs
  /-- INS, INH, opcode 0x22 (R193). -/
  | ins
  /-- DES, INH, opcode 0x23 (R194). -/
  | des
  /-- INX, INH, opcode 0x24 (R195). -/
  | inx
  /-- DEX, INH, opcode 0x25 (R196). -/
  | dex
  /-- PULX, INH, opcode 0x26 (R197). -/
  | pulx
  /-- PSHX, INH, opcode 0x27 (R198). -/
  | pshx
  /-- PULA, INH, opcode 0x28 (R199). -/
  | pula
  /-- PULB, INH, opcode 0x29 (R200). -/
  | pulb
  /-- PSHA, INH, opcode 0x2A (R201). -/
  | psha
  /-- PSHB, INH, opcode 0x2B (R202). -/
  | pshb
  /-- RTS, INH, opcode 0x2C (R203). -/
  | rts
  /-- RTI, INH, opcode 0x2D (R204). -/
  | rti
  /-- WAIT, INH, opcode 0x2E (R205). -/
  | wait
  /-- SWI, INH, opcode 0x2F (R206). -/
  | swi
  /-- NEGA, INH, opcode 0x30 (R216). -/
  | nega
  /-- CLRA, INH, opcode 0x31 (R219). -/
  | clra
  /-- INCA, INH, opcode 0x32 (R222). -/
  | inca
  /-- DECA, INH, opcode 0x33 (R225). -/
  | deca
  /-- LSRA, INH, opcode 0x34 (R228). -/
  | lsra
  /-- RORA, INH, opcode 0x35 (R231). -/
  | rora
  /-- ASRA, INH, opcode 0x36 (R234). -/
  | asra
  /-- LSLA, INH, opcode 0x37 (R237). -/
  | lsla
  /-- ROLA, INH, opcode 0x38 (R240). -/
  | rola
  /-- TSTA, INH, opcode 0x39 (R243). -/
  | tsta
  /-- TDX, INH, opcode 0x3A (R261). -/
  | tdx
  /-- TBA, INH, opcode 0x3C (R262). -/
  | tba
  /-- SBA, INH, opcode 0x3E (R264). -/
  | sba
  /-- ABA, INH, opcode 0x3F (R266). -/
  | aba
  /-- NEGB, INH, opcode 0x40 (R217). -/
  | negb
  /-- CLRB, INH, opcode 0x41 (R220). -/
  | clrb
  /-- INCB, INH, opcode 0x42 (R223). -/
  | incb
  /-- DECB, INH, opcode 0x43 (R226). -/
  | decb
  /-- LSRB, INH, opcode 0x44 (R229). -/
  | lsrb
  /-- RORB, INH, opcode 0x45 (R232). -/
  | rorb
  /-- ASRB, INH, opcode 0x46 (R235). -/
  | asrb
  /-- LSLB, INH, opcode 0x47 (R238). -/
  | lslb
  /-- ROLB, INH, opcode 0x48 (R241). -/
  | rolb
  /-- TSTB, INH, opcode 0x49 (R244). -/
  | tstb
  /-- TAB, INH, opcode 0x4C (R263). -/
  | tab
  /-- CBA, INH, opcode 0x4E (R265). -/
  | cba
  /-- NEG, IX, opcode 0x50 (R218). -/
  | negIx (off : Byte)
  /-- CLR, IX, opcode 0x51 (R221). -/
  | clrIx (off : Byte)
  /-- INC, IX, opcode 0x52 (R224). -/
  | incIx (off : Byte)
  /-- DEC, IX, opcode 0x53 (R227). -/
  | decIx (off : Byte)
  /-- LSR, IX, opcode 0x54 (R230). -/
  | lsrIx (off : Byte)
  /-- ROR, IX, opcode 0x55 (R233). -/
  | rorIx (off : Byte)
  /-- ASR, IX, opcode 0x56 (R236). -/
  | asrIx (off : Byte)
  /-- LSL, IX, opcode 0x57 (R239). -/
  | lslIx (off : Byte)
  /-- ROL, IX, opcode 0x58 (R242). -/
  | rolIx (off : Byte)
  /-- TST, IX, opcode 0x59 (R245). -/
  | tstIx (off : Byte)
  /-- BRSET, IX_M_REL, opcode 0x5A (R267). -/
  | brsetIx (off : Byte) (m : Byte) (rel : Byte)
  /-- BRCLR, IX_M_REL, opcode 0x5B (R268). -/
  | brclrIx (off : Byte) (m : Byte) (rel : Byte)
  /-- BCLR, IX_M, opcode 0x5C (R269). -/
  | bclrIx (off : Byte) (m : Byte)
  /-- BSET, IX_M, opcode 0x5D (R270). -/
  | bsetIx (off : Byte) (m : Byte)
  /-- MOV, IX_M, opcode 0x5E (R271). -/
  | movIx (off : Byte) (m : Byte)
  /-- JMP, IX, opcode 0x5F (R272). -/
  | jmpIx (off : Byte)
  /-- NEG, EXT, opcode 0x60 (R218). -/
  | negExt (addr : Word)
  /-- CLR, EXT, opcode 0x61 (R221). -/
  | clrExt (addr : Word)
  /-- INC, EXT, opcode 0x62 (R224). -/
  | incExt (addr : Word)
  /-- DEC, EXT, opcode 0x63 (R227). -/
  | decExt (addr : Word)
  /-- LSR, EXT, opcode 0x64 (R230). -/
  | lsrExt (addr : Word)
  /-- ROR, EXT, opcode 0x65 (R233). -/
  | rorExt (addr : Word)
  /-- ASR, EXT, opcode 0x66 (R236). -/
  | asrExt (addr : Word)
  /-- LSL, EXT, opcode 0x67 (R239). -/
  | lslExt (addr : Word)
  /-- ROL, EXT, opcode 0x68 (R242). -/
  | rolExt (addr : Word)
  /-- TST, EXT, opcode 0x69 (R245). -/
  | tstExt (addr : Word)
  /-- BRSET, EXT_M_REL, opcode 0x6A (R267). -/
  | brsetExt (addr : Word) (m : Byte) (rel : Byte)
  /-- BRCLR, EXT_M_REL, opcode 0x6B (R268). -/
  | brclrExt (addr : Word) (m : Byte) (rel : Byte)
  /-- BCLR, EXT_M, opcode 0x6C (R269). -/
  | bclrExt (addr : Word) (m : Byte)
  /-- BSET, EXT_M, opcode 0x6D (R270). -/
  | bsetExt (addr : Word) (m : Byte)
  /-- MOV, EXT_M, opcode 0x6E (R271). -/
  | movExt (addr : Word) (m : Byte)
  /-- JMP, EXT, opcode 0x6F (R272). -/
  | jmpExt (addr : Word)
  /-- SUBA, IX+, opcode 0x70 (R281). -/
  | subaIxp (off : Option Byte)
  /-- SBCA, IX+, opcode 0x71 (R282). -/
  | sbcaIxp (off : Option Byte)
  /-- ADDA, IX+, opcode 0x72 (R283). -/
  | addaIxp (off : Option Byte)
  /-- ANDA, IX+, opcode 0x73 (R284). -/
  | andaIxp (off : Option Byte)
  /-- LDAA, IX+, opcode 0x74 (R285). -/
  | ldaaIxp (off : Option Byte)
  /-- ORAA, IX+, opcode 0x75 (R286). -/
  | oraaIxp (off : Option Byte)
  /-- EORA, IX+, opcode 0x76 (R287). -/
  | eoraIxp (off : Option Byte)
  /-- ADCA, IX+, opcode 0x77 (R288). -/
  | adcaIxp (off : Option Byte)
  /-- CMPA, IX+, opcode 0x78 (R289). -/
  | cmpaIxp (off : Option Byte)
  /-- BITA, IX+, opcode 0x79 (R290). -/
  | bitaIxp (off : Option Byte)
  /-- STAA, IX+, opcode 0x7A (R291). -/
  | staaIxp (off : Option Byte)
  /-- SUBD, IX+, opcode 0x7D (R321). -/
  | subdIxp (off : Option Byte)
  /-- CPD, IX+, opcode 0x7E (R322). -/
  | cpdIxp (off : Option Byte)
  /-- ADDD, IX+, opcode 0x7F (R323). -/
  | adddIxp (off : Option Byte)
  /-- SUBA, IMM8, opcode 0x80 (R281). -/
  | subaImm (v : Byte)
  /-- SBCA, IMM8, opcode 0x81 (R282). -/
  | sbcaImm (v : Byte)
  /-- ADDA, IMM8, opcode 0x82 (R283). -/
  | addaImm (v : Byte)
  /-- ANDA, IMM8, opcode 0x83 (R284). -/
  | andaImm (v : Byte)
  /-- LDAA, IMM8, opcode 0x84 (R285). -/
  | ldaaImm (v : Byte)
  /-- ORAA, IMM8, opcode 0x85 (R286). -/
  | oraaImm (v : Byte)
  /-- EORA, IMM8, opcode 0x86 (R287). -/
  | eoraImm (v : Byte)
  /-- ADCA, IMM8, opcode 0x87 (R288). -/
  | adcaImm (v : Byte)
  /-- CMPA, IMM8, opcode 0x88 (R289). -/
  | cmpaImm (v : Byte)
  /-- BITA, IMM8, opcode 0x89 (R290). -/
  | bitaImm (v : Byte)
  /-- AIS, IMM8S, opcode 0x8B (R313). -/
  | ais (imm : Byte)
  /-- LDS, IMM16, opcode 0x8D (R319). -/
  | ldsImm (w : Word)
  /-- SUBD, IMM16, opcode 0x8E (R321). -/
  | subdImm (w : Word)
  /-- ADDD, IMM16, opcode 0x8F (R323). -/
  | adddImm (w : Word)
  /-- SUBA, DIR, opcode 0x90 (R281). -/
  | subaDir (addr : Byte)
  /-- SBCA, DIR, opcode 0x91 (R282). -/
  | sbcaDir (addr : Byte)
  /-- ADDA, DIR, opcode 0x92 (R283). -/
  | addaDir (addr : Byte)
  /-- ANDA, DIR, opcode 0x93 (R284). -/
  | andaDir (addr : Byte)
  /-- LDAA, DIR, opcode 0x94 (R285). -/
  | ldaaDir (addr : Byte)
  /-- ORAA, DIR, opcode 0x95 (R286). -/
  | oraaDir (addr : Byte)
  /-- EORA, DIR, opcode 0x96 (R287). -/
  | eoraDir (addr : Byte)
  /-- ADCA, DIR, opcode 0x97 (R288). -/
  | adcaDir (addr : Byte)
  /-- CMPA, DIR, opcode 0x98 (R289). -/
  | cmpaDir (addr : Byte)
  /-- BITA, DIR, opcode 0x99 (R290). -/
  | bitaDir (addr : Byte)
  /-- STAA, DIR, opcode 0x9A (R291). -/
  | staaDir (addr : Byte)
  /-- STS, DIR, opcode 0x9B (R315). -/
  | stsDir (addr : Byte)
  /-- STD, DIR, opcode 0x9C (R317). -/
  | stdDir (addr : Byte)
  /-- LDS, DIR, opcode 0x9D (R319). -/
  | ldsDir (addr : Byte)
  /-- SUBD, DIR, opcode 0x9E (R321). -/
  | subdDir (addr : Byte)
  /-- ADDD, DIR, opcode 0x9F (R323). -/
  | adddDir (addr : Byte)
  /-- SUBA, IX, opcode 0xA0 (R281). -/
  | subaIx (off : Byte)
  /-- SBCA, IX, opcode 0xA1 (R282). -/
  | sbcaIx (off : Byte)
  /-- ADDA, IX, opcode 0xA2 (R283). -/
  | addaIx (off : Byte)
  /-- ANDA, IX, opcode 0xA3 (R284). -/
  | andaIx (off : Byte)
  /-- LDAA, IX, opcode 0xA4 (R285). -/
  | ldaaIx (off : Byte)
  /-- ORAA, IX, opcode 0xA5 (R286). -/
  | oraaIx (off : Byte)
  /-- EORA, IX, opcode 0xA6 (R287). -/
  | eoraIx (off : Byte)
  /-- ADCA, IX, opcode 0xA7 (R288). -/
  | adcaIx (off : Byte)
  /-- CMPA, IX, opcode 0xA8 (R289). -/
  | cmpaIx (off : Byte)
  /-- BITA, IX, opcode 0xA9 (R290). -/
  | bitaIx (off : Byte)
  /-- STAA, IX, opcode 0xAA (R291). -/
  | staaIx (off : Byte)
  /-- STS, IX, opcode 0xAB (R315). -/
  | stsIx (off : Byte)
  /-- STD, IX, opcode 0xAC (R317). -/
  | stdIx (off : Byte)
  /-- LDS, IX, opcode 0xAD (R319). -/
  | ldsIx (off : Byte)
  /-- SUBD, IX, opcode 0xAE (R321). -/
  | subdIx (off : Byte)
  /-- ADDD, IX, opcode 0xAF (R323). -/
  | adddIx (off : Byte)
  /-- SUBA, EXT, opcode 0xB0 (R281). -/
  | subaExt (addr : Word)
  /-- SBCA, EXT, opcode 0xB1 (R282). -/
  | sbcaExt (addr : Word)
  /-- ADDA, EXT, opcode 0xB2 (R283). -/
  | addaExt (addr : Word)
  /-- ANDA, EXT, opcode 0xB3 (R284). -/
  | andaExt (addr : Word)
  /-- LDAA, EXT, opcode 0xB4 (R285). -/
  | ldaaExt (addr : Word)
  /-- ORAA, EXT, opcode 0xB5 (R286). -/
  | oraaExt (addr : Word)
  /-- EORA, EXT, opcode 0xB6 (R287). -/
  | eoraExt (addr : Word)
  /-- ADCA, EXT, opcode 0xB7 (R288). -/
  | adcaExt (addr : Word)
  /-- CMPA, EXT, opcode 0xB8 (R289). -/
  | cmpaExt (addr : Word)
  /-- BITA, EXT, opcode 0xB9 (R290). -/
  | bitaExt (addr : Word)
  /-- STAA, EXT, opcode 0xBA (R291). -/
  | staaExt (addr : Word)
  /-- STS, EXT, opcode 0xBB (R315). -/
  | stsExt (addr : Word)
  /-- STD, EXT, opcode 0xBC (R317). -/
  | stdExt (addr : Word)
  /-- LDS, EXT, opcode 0xBD (R319). -/
  | ldsExt (addr : Word)
  /-- SUBD, EXT, opcode 0xBE (R321). -/
  | subdExt (addr : Word)
  /-- ADDD, EXT, opcode 0xBF (R323). -/
  | adddExt (addr : Word)
  /-- SUBB, IMM8, opcode 0xC0 (R292). -/
  | subbImm (v : Byte)
  /-- SBCB, IMM8, opcode 0xC1 (R293). -/
  | sbcbImm (v : Byte)
  /-- ADDB, IMM8, opcode 0xC2 (R294). -/
  | addbImm (v : Byte)
  /-- ANDB, IMM8, opcode 0xC3 (R295). -/
  | andbImm (v : Byte)
  /-- LDAB, IMM8, opcode 0xC4 (R296). -/
  | ldabImm (v : Byte)
  /-- ORAB, IMM8, opcode 0xC5 (R297). -/
  | orabImm (v : Byte)
  /-- EORB, IMM8, opcode 0xC6 (R298). -/
  | eorbImm (v : Byte)
  /-- ADCB, IMM8, opcode 0xC7 (R299). -/
  | adcbImm (v : Byte)
  /-- CMPB, IMM8, opcode 0xC8 (R300). -/
  | cmpbImm (v : Byte)
  /-- BSR, REL, opcode 0xC9 (R311). -/
  | bsr (rel : Byte)
  /-- AIX, IMM8S, opcode 0xCB (R314). -/
  | aix (imm : Byte)
  /-- CPX, IMM16, opcode 0xCC (R318). -/
  | cpxImm (w : Word)
  /-- LDX, IMM16, opcode 0xCD (R320). -/
  | ldxImm (w : Word)
  /-- CPD, IMM16, opcode 0xCE (R322). -/
  | cpdImm (w : Word)
  /-- LDD, IMM16, opcode 0xCF (R324). -/
  | lddImm (w : Word)
  /-- SUBB, DIR, opcode 0xD0 (R292). -/
  | subbDir (addr : Byte)
  /-- SBCB, DIR, opcode 0xD1 (R293). -/
  | sbcbDir (addr : Byte)
  /-- ADDB, DIR, opcode 0xD2 (R294). -/
  | addbDir (addr : Byte)
  /-- ANDB, DIR, opcode 0xD3 (R295). -/
  | andbDir (addr : Byte)
  /-- LDAB, DIR, opcode 0xD4 (R296). -/
  | ldabDir (addr : Byte)
  /-- ORAB, DIR, opcode 0xD5 (R297). -/
  | orabDir (addr : Byte)
  /-- EORB, DIR, opcode 0xD6 (R298). -/
  | eorbDir (addr : Byte)
  /-- ADCB, DIR, opcode 0xD7 (R299). -/
  | adcbDir (addr : Byte)
  /-- CMPB, DIR, opcode 0xD8 (R300). -/
  | cmpbDir (addr : Byte)
  /-- JSR, DIR, opcode 0xD9 (R312). -/
  | jsrDir (addr : Byte)
  /-- STAB, DIR, opcode 0xDA (R301). -/
  | stabDir (addr : Byte)
  /-- STX, DIR, opcode 0xDB (R316). -/
  | stxDir (addr : Byte)
  /-- CPX, DIR, opcode 0xDC (R318). -/
  | cpxDir (addr : Byte)
  /-- LDX, DIR, opcode 0xDD (R320). -/
  | ldxDir (addr : Byte)
  /-- CPD, DIR, opcode 0xDE (R322). -/
  | cpdDir (addr : Byte)
  /-- LDD, DIR, opcode 0xDF (R324). -/
  | lddDir (addr : Byte)
  /-- SUBB, IX, opcode 0xE0 (R292). -/
  | subbIx (off : Byte)
  /-- SBCB, IX, opcode 0xE1 (R293). -/
  | sbcbIx (off : Byte)
  /-- ADDB, IX, opcode 0xE2 (R294). -/
  | addbIx (off : Byte)
  /-- ANDB, IX, opcode 0xE3 (R295). -/
  | andbIx (off : Byte)
  /-- LDAB, IX, opcode 0xE4 (R296). -/
  | ldabIx (off : Byte)
  /-- ORAB, IX, opcode 0xE5 (R297). -/
  | orabIx (off : Byte)
  /-- EORB, IX, opcode 0xE6 (R298). -/
  | eorbIx (off : Byte)
  /-- ADCB, IX, opcode 0xE7 (R299). -/
  | adcbIx (off : Byte)
  /-- CMPB, IX, opcode 0xE8 (R300). -/
  | cmpbIx (off : Byte)
  /-- JSR, IX, opcode 0xE9 (R312). -/
  | jsrIx (off : Byte)
  /-- STAB, IX, opcode 0xEA (R301). -/
  | stabIx (off : Byte)
  /-- STX, IX, opcode 0xEB (R316). -/
  | stxIx (off : Byte)
  /-- CPX, IX, opcode 0xEC (R318). -/
  | cpxIx (off : Byte)
  /-- LDX, IX, opcode 0xED (R320). -/
  | ldxIx (off : Byte)
  /-- CPD, IX, opcode 0xEE (R322). -/
  | cpdIx (off : Byte)
  /-- LDD, IX, opcode 0xEF (R324). -/
  | lddIx (off : Byte)
  /-- SUBB, EXT, opcode 0xF0 (R292). -/
  | subbExt (addr : Word)
  /-- SBCB, EXT, opcode 0xF1 (R293). -/
  | sbcbExt (addr : Word)
  /-- ADDB, EXT, opcode 0xF2 (R294). -/
  | addbExt (addr : Word)
  /-- ANDB, EXT, opcode 0xF3 (R295). -/
  | andbExt (addr : Word)
  /-- LDAB, EXT, opcode 0xF4 (R296). -/
  | ldabExt (addr : Word)
  /-- ORAB, EXT, opcode 0xF5 (R297). -/
  | orabExt (addr : Word)
  /-- EORB, EXT, opcode 0xF6 (R298). -/
  | eorbExt (addr : Word)
  /-- ADCB, EXT, opcode 0xF7 (R299). -/
  | adcbExt (addr : Word)
  /-- CMPB, EXT, opcode 0xF8 (R300). -/
  | cmpbExt (addr : Word)
  /-- JSR, EXT, opcode 0xF9 (R312). -/
  | jsrExt (addr : Word)
  /-- STAB, EXT, opcode 0xFA (R301). -/
  | stabExt (addr : Word)
  /-- STX, EXT, opcode 0xFB (R316). -/
  | stxExt (addr : Word)
  /-- CPX, EXT, opcode 0xFC (R318). -/
  | cpxExt (addr : Word)
  /-- LDX, EXT, opcode 0xFD (R320). -/
  | ldxExt (addr : Word)
  /-- CPD, EXT, opcode 0xFE (R322). -/
  | cpdExt (addr : Word)
  /-- LDD, EXT, opcode 0xFF (R324). -/
  | lddExt (addr : Word)
  /-- NOP, INH, opcode 0x00 (R141). -/
  | nop
  deriving DecidableEq, Repr

end Sys2Proof
end

