-- ==== Sys2Proof/Machine/AccBitMovJmp.lean ====
section
/-! DEFINITION. Accumulator transfers and arithmetic, bit instructions, MOV and JMP (44_acc_bit_mov_jmp.md R260 to R272). -/

namespace Sys2Proof.Machine

/-- BRSET: t is the memory byte and the mask; branch if Z is 0, that is if a selected bit is 1 (R267). -/
def branchSet (ea : Word) (m rel : Byte) (s : State) : Res State :=
  load8 ea (fun x t => branchIf (decide (x &&& m ≠ 0)) rel (t.setCcr (t.ccr.bitTest x m (x &&& m)))) s

/-- BRCLR: t is the complemented memory byte and the mask; branch if Z is 0, that is if a selected bit is 0 (R268). -/
def branchClear (ea : Word) (m rel : Byte) (s : State) : Res State :=
  load8 ea (fun x t => branchIf (decide (~~~x &&& m ≠ 0)) rel (t.setCcr (t.ccr.bitTest x m (~~~x &&& m)))) s

/-- BCLR: clear the selected bits, with the flags of the logic group (R269). -/
def clearBits (ea : Word) (m : Byte) (s : State) : Res State :=
  rmw8 ea (fun x ccr => (x &&& ~~~m, ccr.logic (x &&& ~~~m))) s

/-- BSET: set the selected bits, with the flags of the logic group (R270). -/
def setBits (ea : Word) (m : Byte) (s : State) : Res State :=
  rmw8 ea (fun x ccr => (x ||| m, ccr.logic (x ||| m))) s

/-- MOV: write the data byte, with the flags of the logic group (R271). -/
def moveByte (ea : Word) (v : Byte) (s : State) : Res State :=
  andThen (write8 ea v s) fun t => .next (t.setCcr (t.ccr.logic v))

/-- TDX, INH, opcode 0x3A (R261). -/
def execTdx (s : State) : Host.Outcome State Fault Refusal :=
  .next ((s.setIx s.d).setCcr (s.ccr.logic s.d))

/-- TBA, INH, opcode 0x3C (R262). -/
def execTba (s : State) : Host.Outcome State Fault Refusal :=
  .next ((s.setA s.b).setCcr (s.ccr.logic s.b))

/-- SBA, INH, opcode 0x3E (R264). -/
def execSba (s : State) : Host.Outcome State Fault Refusal :=
  .next ((s.setA (subFlags s.a s.b false).r).setCcr (s.ccr.arith (subFlags s.a s.b false)))

/-- ABA, INH, opcode 0x3F (R266). -/
def execAba (s : State) : Host.Outcome State Fault Refusal :=
  .next ((s.setA (addFlags s.a s.b false).r).setCcr (s.ccr.arith (addFlags s.a s.b false)))

/-- TAB, INH, opcode 0x4C (R263). -/
def execTab (s : State) : Host.Outcome State Fault Refusal :=
  .next ((s.setB s.a).setCcr (s.ccr.logic s.a))

/-- CBA, INH, opcode 0x4E (R265). -/
def execCba (s : State) : Host.Outcome State Fault Refusal :=
  .next (s.setCcr (s.ccr.arith (subFlags s.a s.b false)))

/-- BRSET, IX_M_REL, opcode 0x5A (R267). -/
def execBrsetIx (off : Byte) (m : Byte) (rel : Byte) (s : State) : Host.Outcome State Fault Refusal :=
  branchSet (eaIx off s) m rel s

/-- BRCLR, IX_M_REL, opcode 0x5B (R268). -/
def execBrclrIx (off : Byte) (m : Byte) (rel : Byte) (s : State) : Host.Outcome State Fault Refusal :=
  branchClear (eaIx off s) m rel s

/-- BCLR, IX_M, opcode 0x5C (R269). -/
def execBclrIx (off : Byte) (m : Byte) (s : State) : Host.Outcome State Fault Refusal :=
  clearBits (eaIx off s) m s

/-- BSET, IX_M, opcode 0x5D (R270). -/
def execBsetIx (off : Byte) (m : Byte) (s : State) : Host.Outcome State Fault Refusal :=
  setBits (eaIx off s) m s

/-- MOV, IX_M, opcode 0x5E (R271). -/
def execMovIx (off : Byte) (m : Byte) (s : State) : Host.Outcome State Fault Refusal :=
  moveByte (eaIx off s) m s

/-- JMP, IX, opcode 0x5F (R272). -/
def execJmpIx (off : Byte) (s : State) : Host.Outcome State Fault Refusal :=
  .next (s.setPc (eaIx off s))

/-- BRSET, EXT_M_REL, opcode 0x6A (R267). -/
def execBrsetExt (addr : Word) (m : Byte) (rel : Byte) (s : State) : Host.Outcome State Fault Refusal :=
  branchSet addr m rel s

/-- BRCLR, EXT_M_REL, opcode 0x6B (R268). -/
def execBrclrExt (addr : Word) (m : Byte) (rel : Byte) (s : State) : Host.Outcome State Fault Refusal :=
  branchClear addr m rel s

/-- BCLR, EXT_M, opcode 0x6C (R269). -/
def execBclrExt (addr : Word) (m : Byte) (s : State) : Host.Outcome State Fault Refusal :=
  clearBits addr m s

/-- BSET, EXT_M, opcode 0x6D (R270). -/
def execBsetExt (addr : Word) (m : Byte) (s : State) : Host.Outcome State Fault Refusal :=
  setBits addr m s

/-- MOV, EXT_M, opcode 0x6E (R271). -/
def execMovExt (addr : Word) (m : Byte) (s : State) : Host.Outcome State Fault Refusal :=
  moveByte addr m s

/-- JMP, EXT, opcode 0x6F (R272). -/
def execJmpExt (addr : Word) (s : State) : Host.Outcome State Fault Refusal :=
  .next (s.setPc addr)

end Sys2Proof.Machine
end

