-- ==== Sys2Proof/Machine/Branches.lean ====
section
/-! DEFINITION. The relative branches (41_branches.md R160 to R184). `pc` already holds the address after the offset byte. -/

namespace Sys2Proof.Machine

/-- DABNZ and DBBNZ: decrement the accumulator with the flags of DEC, then branch if Z is 0 (R162, R163). -/
def decrementBranch (r : Acc) (rel : Byte) (s : State) : State :=
  let t := rmwAcc r decByte s
  branchIf (!t.ccr.z) rel t

/-- DABNZ, REL, opcode 0x02 (R162). -/
def execDabnz (rel : Byte) (s : State) : Host.Outcome State Fault Refusal :=
  .next (decrementBranch .a rel s)

/-- DBBNZ, REL, opcode 0x03 (R163). -/
def execDbbnz (rel : Byte) (s : State) : Host.Outcome State Fault Refusal :=
  .next (decrementBranch .b rel s)

/-- BRN, REL, opcode 0x04 (R164). -/
def execBrn (rel : Byte) (s : State) : Host.Outcome State Fault Refusal :=
  .next (branchIf false rel s)

/-- BRA, REL, opcode 0x05 (R165). -/
def execBra (rel : Byte) (s : State) : Host.Outcome State Fault Refusal :=
  .next (branchIf true rel s)

/-- BIL, REL, opcode 0x06 (R166). -/
def execBil (rel : Byte) (s : State) : Host.Outcome State Fault Refusal :=
  .next (branchIf (!s.ccr.i) rel s)

/-- BIH, REL, opcode 0x07 (R167). -/
def execBih (rel : Byte) (s : State) : Host.Outcome State Fault Refusal :=
  .next (branchIf s.ccr.i rel s)

/-- BHCC, REL, opcode 0x10 (R168). -/
def execBhcc (rel : Byte) (s : State) : Host.Outcome State Fault Refusal :=
  .next (branchIf (!s.ccr.h) rel s)

/-- BHCS, REL, opcode 0x11 (R169). -/
def execBhcs (rel : Byte) (s : State) : Host.Outcome State Fault Refusal :=
  .next (branchIf s.ccr.h rel s)

/-- BHI, REL, opcode 0x12 (R170). -/
def execBhi (rel : Byte) (s : State) : Host.Outcome State Fault Refusal :=
  .next (branchIf (!(s.ccr.c || s.ccr.z)) rel s)

/-- BLS, REL, opcode 0x13 (R171). -/
def execBls (rel : Byte) (s : State) : Host.Outcome State Fault Refusal :=
  .next (branchIf (s.ccr.c || s.ccr.z) rel s)

/-- BCC, REL, opcode 0x14 (R172). -/
def execBcc (rel : Byte) (s : State) : Host.Outcome State Fault Refusal :=
  .next (branchIf (!s.ccr.c) rel s)

/-- BCS, REL, opcode 0x15 (R173). -/
def execBcs (rel : Byte) (s : State) : Host.Outcome State Fault Refusal :=
  .next (branchIf s.ccr.c rel s)

/-- BNE, REL, opcode 0x16 (R174). -/
def execBne (rel : Byte) (s : State) : Host.Outcome State Fault Refusal :=
  .next (branchIf (!s.ccr.z) rel s)

/-- BEQ, REL, opcode 0x17 (R175). -/
def execBeq (rel : Byte) (s : State) : Host.Outcome State Fault Refusal :=
  .next (branchIf s.ccr.z rel s)

/-- BVC, REL, opcode 0x18 (R176). -/
def execBvc (rel : Byte) (s : State) : Host.Outcome State Fault Refusal :=
  .next (branchIf (!s.ccr.v) rel s)

/-- BVS, REL, opcode 0x19 (R177). -/
def execBvs (rel : Byte) (s : State) : Host.Outcome State Fault Refusal :=
  .next (branchIf s.ccr.v rel s)

/-- BPL, REL, opcode 0x1A (R178). -/
def execBpl (rel : Byte) (s : State) : Host.Outcome State Fault Refusal :=
  .next (branchIf (!s.ccr.n) rel s)

/-- BMI, REL, opcode 0x1B (R179). -/
def execBmi (rel : Byte) (s : State) : Host.Outcome State Fault Refusal :=
  .next (branchIf s.ccr.n rel s)

/-- BGE, REL, opcode 0x1C (R180). -/
def execBge (rel : Byte) (s : State) : Host.Outcome State Fault Refusal :=
  .next (branchIf (!(s.ccr.n ^^ s.ccr.v)) rel s)

/-- BLT, REL, opcode 0x1D (R181). -/
def execBlt (rel : Byte) (s : State) : Host.Outcome State Fault Refusal :=
  .next (branchIf (s.ccr.n ^^ s.ccr.v) rel s)

/-- BGT, REL, opcode 0x1E (R182). -/
def execBgt (rel : Byte) (s : State) : Host.Outcome State Fault Refusal :=
  .next (branchIf (!(s.ccr.z || (s.ccr.n ^^ s.ccr.v))) rel s)

/-- BLE, REL, opcode 0x1F (R183). -/
def execBle (rel : Byte) (s : State) : Host.Outcome State Fault Refusal :=
  .next (branchIf (s.ccr.z || (s.ccr.n ^^ s.ccr.v)) rel s)

end Sys2Proof.Machine
end

