-- ==== Sys2Proof/Machine/Control.lean ====
section
/-! DEFINITION. The column 0 inherent instructions (40_control_inherent.md R140 to R150). `pc` already holds the address of the
next instruction (10_state.md R25). -/

namespace Sys2Proof.Machine

/-- What IDIV leaves in A, B and the CCR (R143): quotient and remainder for a divisor that is not zero, two free values for
zero (P_IDIV; log 18). Hidden is left at a free value (R45; log 19). -/
def divide (s : State) : State :=
  if s.b = 0 then
    ((((s.setA (Config.freeByte s.draws)).setB (Config.freeByte (s.draws + 1))).setHidden (Config.freeByte (s.draws + 2))).setCcr
      (s.ccr.afterIdiv s.a s.b)).drew 3
  else
    ((((s.setA (idivBytes s.a s.b).1).setB (idivBytes s.a s.b).2).setHidden (Config.freeByte s.draws)).setCcr
      (s.ccr.afterIdiv s.a s.b)).drew 1

/-- What MUL leaves in D and the CCR (R144); Hidden is left at a free value (R45; log 19). -/
def multiply (s : State) : State :=
  (((s.setD (mulWord s.a s.b)).setHidden (Config.freeByte s.draws)).setCcr (s.ccr.afterMul s.a s.b)).drew 1

/-- NOP, INH, opcode 0x00 (R141). -/
def execNop (s : State) : Host.Outcome State Fault Refusal :=
  .next s

/-- STOP, INH, opcode 0x01 (R142). The processor stops fetching; a later step says that the run has ended (R366; log 11). -/
def execStop (s : State) : Host.Outcome State Fault Refusal :=
  .next (s.setRun .stopped)

/-- IDIV, INH, opcode 0x08 (R143). -/
def execIdiv (s : State) : Host.Outcome State Fault Refusal :=
  .next (divide s)

/-- MUL, INH, opcode 0x09 (R144). -/
def execMul (s : State) : Host.Outcome State Fault Refusal :=
  .next (multiply s)

/-- CLV, INH, opcode 0x0A (R145). -/
def execClv (s : State) : Host.Outcome State Fault Refusal :=
  .next (s.setCcr { s.ccr with v := false })

/-- SEV, INH, opcode 0x0B (R146). -/
def execSev (s : State) : Host.Outcome State Fault Refusal :=
  .next (s.setCcr { s.ccr with v := true })

/-- CLC, INH, opcode 0x0C (R147). -/
def execClc (s : State) : Host.Outcome State Fault Refusal :=
  .next (s.setCcr { s.ccr with c := false })

/-- SEC, INH, opcode 0x0D (R148). -/
def execSec (s : State) : Host.Outcome State Fault Refusal :=
  .next (s.setCcr { s.ccr with c := true })

/-- CLI, INH, opcode 0x0E (R149). Recognition may come one instruction late (R149, R353; log 9). -/
def execCli (s : State) : Host.Outcome State Fault Refusal :=
  .next ((s.setCcr { s.ccr with i := false }).setIrqLag true)

/-- SEI, INH, opcode 0x0F (R150). -/
def execSei (s : State) : Host.Outcome State Fault Refusal :=
  .next (s.setCcr { s.ccr with i := true })

end Sys2Proof.Machine
end

