-- ==== Sys2Proof/Machine/ReadModifyWrite.lean ====
section
/-! DEFINITION. The read-modify-write instructions on A, B and a memory byte (43_read_modify_write.md R215 to R245). -/

namespace Sys2Proof.Machine

/-- CLR of a memory byte: the write only, and the flags (R221). -/
def clearByte (ea : Word) (s : State) : Res State :=
  andThen (write8 ea 0 s) fun t => .next (t.setCcr (clrByte 0 t.ccr).2)

/-- TST of a byte: the flags of the logic group, C unchanged (R243). -/
def testFlags (v : Byte) (s : State) : State := s.setCcr (s.ccr.logic v)

/-- TST of a memory byte: read and not written back; refused on an MM register, where a write-back would be observable
(R245, U-21; log 14). -/
def testByte (ea : Word) (s : State) : Res State :=
  match mmReg ea with
  | some _ => .refused (.testOfDevice ea)
  | none => load8 ea testFlags s

/-- NEGA, INH, opcode 0x30 (R216). -/
def execNega (s : State) : Host.Outcome State Fault Refusal :=
  .next (rmwAcc .a negByte s)

/-- CLRA, INH, opcode 0x31 (R219). -/
def execClra (s : State) : Host.Outcome State Fault Refusal :=
  .next (rmwAcc .a clrByte s)

/-- INCA, INH, opcode 0x32 (R222). -/
def execInca (s : State) : Host.Outcome State Fault Refusal :=
  .next (rmwAcc .a incByte s)

/-- DECA, INH, opcode 0x33 (R225). -/
def execDeca (s : State) : Host.Outcome State Fault Refusal :=
  .next (rmwAcc .a decByte s)

/-- LSRA, INH, opcode 0x34 (R228). -/
def execLsra (s : State) : Host.Outcome State Fault Refusal :=
  .next (rmwAcc .a lsrByte s)

/-- RORA, INH, opcode 0x35 (R231). -/
def execRora (s : State) : Host.Outcome State Fault Refusal :=
  .next (rmwAcc .a rorByte s)

/-- ASRA, INH, opcode 0x36 (R234). -/
def execAsra (s : State) : Host.Outcome State Fault Refusal :=
  .next (rmwAcc .a asrByte s)

/-- LSLA, INH, opcode 0x37 (R237). -/
def execLsla (s : State) : Host.Outcome State Fault Refusal :=
  .next (rmwAcc .a lslByte s)

/-- ROLA, INH, opcode 0x38 (R240). -/
def execRola (s : State) : Host.Outcome State Fault Refusal :=
  .next (rmwAcc .a rolByte s)

/-- TSTA, INH, opcode 0x39 (R243). -/
def execTsta (s : State) : Host.Outcome State Fault Refusal :=
  .next (testFlags (s.acc .a) s)

/-- NEGB, INH, opcode 0x40 (R217). -/
def execNegb (s : State) : Host.Outcome State Fault Refusal :=
  .next (rmwAcc .b negByte s)

/-- CLRB, INH, opcode 0x41 (R220). -/
def execClrb (s : State) : Host.Outcome State Fault Refusal :=
  .next (rmwAcc .b clrByte s)

/-- INCB, INH, opcode 0x42 (R223). -/
def execIncb (s : State) : Host.Outcome State Fault Refusal :=
  .next (rmwAcc .b incByte s)

/-- DECB, INH, opcode 0x43 (R226). -/
def execDecb (s : State) : Host.Outcome State Fault Refusal :=
  .next (rmwAcc .b decByte s)

/-- LSRB, INH, opcode 0x44 (R229). -/
def execLsrb (s : State) : Host.Outcome State Fault Refusal :=
  .next (rmwAcc .b lsrByte s)

/-- RORB, INH, opcode 0x45 (R232). -/
def execRorb (s : State) : Host.Outcome State Fault Refusal :=
  .next (rmwAcc .b rorByte s)

/-- ASRB, INH, opcode 0x46 (R235). -/
def execAsrb (s : State) : Host.Outcome State Fault Refusal :=
  .next (rmwAcc .b asrByte s)

/-- LSLB, INH, opcode 0x47 (R238). -/
def execLslb (s : State) : Host.Outcome State Fault Refusal :=
  .next (rmwAcc .b lslByte s)

/-- ROLB, INH, opcode 0x48 (R241). -/
def execRolb (s : State) : Host.Outcome State Fault Refusal :=
  .next (rmwAcc .b rolByte s)

/-- TSTB, INH, opcode 0x49 (R244). -/
def execTstb (s : State) : Host.Outcome State Fault Refusal :=
  .next (testFlags (s.acc .b) s)

/-- NEG, IX, opcode 0x50 (R218). -/
def execNegIx (off : Byte) (s : State) : Host.Outcome State Fault Refusal :=
  rmw8 (eaIx off s) negByte s

/-- CLR, IX, opcode 0x51 (R221). -/
def execClrIx (off : Byte) (s : State) : Host.Outcome State Fault Refusal :=
  clearByte (eaIx off s) s

/-- INC, IX, opcode 0x52 (R224). -/
def execIncIx (off : Byte) (s : State) : Host.Outcome State Fault Refusal :=
  rmw8 (eaIx off s) incByte s

/-- DEC, IX, opcode 0x53 (R227). -/
def execDecIx (off : Byte) (s : State) : Host.Outcome State Fault Refusal :=
  rmw8 (eaIx off s) decByte s

/-- LSR, IX, opcode 0x54 (R230). -/
def execLsrIx (off : Byte) (s : State) : Host.Outcome State Fault Refusal :=
  rmw8 (eaIx off s) lsrByte s

/-- ROR, IX, opcode 0x55 (R233). -/
def execRorIx (off : Byte) (s : State) : Host.Outcome State Fault Refusal :=
  rmw8 (eaIx off s) rorByte s

/-- ASR, IX, opcode 0x56 (R236). -/
def execAsrIx (off : Byte) (s : State) : Host.Outcome State Fault Refusal :=
  rmw8 (eaIx off s) asrByte s

/-- LSL, IX, opcode 0x57 (R239). -/
def execLslIx (off : Byte) (s : State) : Host.Outcome State Fault Refusal :=
  rmw8 (eaIx off s) lslByte s

/-- ROL, IX, opcode 0x58 (R242). -/
def execRolIx (off : Byte) (s : State) : Host.Outcome State Fault Refusal :=
  rmw8 (eaIx off s) rolByte s

/-- TST, IX, opcode 0x59 (R245). -/
def execTstIx (off : Byte) (s : State) : Host.Outcome State Fault Refusal :=
  testByte (eaIx off s) s

/-- NEG, EXT, opcode 0x60 (R218). -/
def execNegExt (addr : Word) (s : State) : Host.Outcome State Fault Refusal :=
  rmw8 addr negByte s

/-- CLR, EXT, opcode 0x61 (R221). -/
def execClrExt (addr : Word) (s : State) : Host.Outcome State Fault Refusal :=
  clearByte addr s

/-- INC, EXT, opcode 0x62 (R224). -/
def execIncExt (addr : Word) (s : State) : Host.Outcome State Fault Refusal :=
  rmw8 addr incByte s

/-- DEC, EXT, opcode 0x63 (R227). -/
def execDecExt (addr : Word) (s : State) : Host.Outcome State Fault Refusal :=
  rmw8 addr decByte s

/-- LSR, EXT, opcode 0x64 (R230). -/
def execLsrExt (addr : Word) (s : State) : Host.Outcome State Fault Refusal :=
  rmw8 addr lsrByte s

/-- ROR, EXT, opcode 0x65 (R233). -/
def execRorExt (addr : Word) (s : State) : Host.Outcome State Fault Refusal :=
  rmw8 addr rorByte s

/-- ASR, EXT, opcode 0x66 (R236). -/
def execAsrExt (addr : Word) (s : State) : Host.Outcome State Fault Refusal :=
  rmw8 addr asrByte s

/-- LSL, EXT, opcode 0x67 (R239). -/
def execLslExt (addr : Word) (s : State) : Host.Outcome State Fault Refusal :=
  rmw8 addr lslByte s

/-- ROL, EXT, opcode 0x68 (R242). -/
def execRolExt (addr : Word) (s : State) : Host.Outcome State Fault Refusal :=
  rmw8 addr rolByte s

/-- TST, EXT, opcode 0x69 (R245). -/
def execTstExt (addr : Word) (s : State) : Host.Outcome State Fault Refusal :=
  testByte addr s

end Sys2Proof.Machine
end

