-- ==== Sys2Proof/Machine/RegMem16.lean ====
section
/-! DEFINITION. The 16-bit register/memory instructions, AIS, AIX, BSR and JSR (46_regmem_16bit_subroutine.md R310 to R324). -/

namespace Sys2Proof.Machine

/-- CPX, CPD: the flags of SUB_16, H a free value (P_H16; log 17), the result discarded (R318, R322). -/
def compare16 (r : Reg16) (w : Word) (s : State) : State :=
  (s.setCcr (s.ccr.arithH (subFlags (s.reg16 r) w false) (Config.freeBit s.draws))).drew 1

/-- SUBD (R321); H is a free value (P_H16; log 17). -/
def subD (w : Word) (s : State) : State :=
  ((s.setD (subFlags s.d w false).r).setCcr (s.ccr.arithH (subFlags s.d w false) (Config.freeBit s.draws))).drew 1

/-- ADDD (R323); H is a free value (P_H16; log 17). -/
def addD (w : Word) (s : State) : State :=
  ((s.setD (addFlags s.d w false).r).setCcr (s.ccr.arithH (addFlags s.d w false) (Config.freeBit s.draws))).drew 1

/-- LDS, LDX, LDD: the word, with the flags of the 16-bit logic group (R319, R320, R324). -/
def loadReg16 (r : Reg16) (w : Word) (s : State) : State := (s.setReg16 r w).setCcr (s.ccr.logic w)

/-- STS, STX, STD: store the register, with the flags of the 16-bit logic group (R315, R316, R317). -/
def storeReg16 (r : Reg16) (ea : Word) (s : State) : Res State :=
  andThen (write16 ea (s.reg16 r) s) fun t => .next (t.setCcr (t.ccr.logic (s.reg16 r)))

/-- BSR, JSR: push the address of the next instruction, then go to the target (R311, R312). -/
def callAt (target : Word) (s : State) : Res State := andThen (push16 s.pc s) fun t => .next (t.setPc target)

/-- SUBD, IX+, opcode 0x7D (R321). -/
def execSubdIxp (off : Option Byte) (s : State) : Host.Outcome State Fault Refusal :=
  postInc 2 (load16 (eaIxp off s) subD s)

/-- CPD, IX+, opcode 0x7E (R322). -/
def execCpdIxp (off : Option Byte) (s : State) : Host.Outcome State Fault Refusal :=
  postInc 2 (load16 (eaIxp off s) (compare16 .d) s)

/-- ADDD, IX+, opcode 0x7F (R323). -/
def execAdddIxp (off : Option Byte) (s : State) : Host.Outcome State Fault Refusal :=
  postInc 2 (load16 (eaIxp off s) addD s)

/-- AIS, IMM8S, opcode 0x8B (R313). -/
def execAis (imm : Byte) (s : State) : Host.Outcome State Fault Refusal :=
  .next (s.setSp (s.sp + sext16 imm))

/-- LDS, IMM16, opcode 0x8D (R319). -/
def execLdsImm (w : Word) (s : State) : Host.Outcome State Fault Refusal :=
  .next (loadReg16 .sp w s)

/-- SUBD, IMM16, opcode 0x8E (R321). -/
def execSubdImm (w : Word) (s : State) : Host.Outcome State Fault Refusal :=
  .next (subD w s)

/-- ADDD, IMM16, opcode 0x8F (R323). -/
def execAdddImm (w : Word) (s : State) : Host.Outcome State Fault Refusal :=
  .next (addD w s)

/-- STS, DIR, opcode 0x9B (R315). -/
def execStsDir (addr : Byte) (s : State) : Host.Outcome State Fault Refusal :=
  storeReg16 .sp (eaDir addr) s

/-- STD, DIR, opcode 0x9C (R317). -/
def execStdDir (addr : Byte) (s : State) : Host.Outcome State Fault Refusal :=
  storeReg16 .d (eaDir addr) s

/-- LDS, DIR, opcode 0x9D (R319). -/
def execLdsDir (addr : Byte) (s : State) : Host.Outcome State Fault Refusal :=
  load16 (eaDir addr) (loadReg16 .sp) s

/-- SUBD, DIR, opcode 0x9E (R321). -/
def execSubdDir (addr : Byte) (s : State) : Host.Outcome State Fault Refusal :=
  load16 (eaDir addr) subD s

/-- ADDD, DIR, opcode 0x9F (R323). -/
def execAdddDir (addr : Byte) (s : State) : Host.Outcome State Fault Refusal :=
  load16 (eaDir addr) addD s

/-- STS, IX, opcode 0xAB (R315). -/
def execStsIx (off : Byte) (s : State) : Host.Outcome State Fault Refusal :=
  storeReg16 .sp (eaIx off s) s

/-- STD, IX, opcode 0xAC (R317). -/
def execStdIx (off : Byte) (s : State) : Host.Outcome State Fault Refusal :=
  storeReg16 .d (eaIx off s) s

/-- LDS, IX, opcode 0xAD (R319). -/
def execLdsIx (off : Byte) (s : State) : Host.Outcome State Fault Refusal :=
  load16 (eaIx off s) (loadReg16 .sp) s

/-- SUBD, IX, opcode 0xAE (R321). -/
def execSubdIx (off : Byte) (s : State) : Host.Outcome State Fault Refusal :=
  load16 (eaIx off s) subD s

/-- ADDD, IX, opcode 0xAF (R323). -/
def execAdddIx (off : Byte) (s : State) : Host.Outcome State Fault Refusal :=
  load16 (eaIx off s) addD s

/-- STS, EXT, opcode 0xBB (R315). -/
def execStsExt (addr : Word) (s : State) : Host.Outcome State Fault Refusal :=
  storeReg16 .sp addr s

/-- STD, EXT, opcode 0xBC (R317). -/
def execStdExt (addr : Word) (s : State) : Host.Outcome State Fault Refusal :=
  storeReg16 .d addr s

/-- LDS, EXT, opcode 0xBD (R319). -/
def execLdsExt (addr : Word) (s : State) : Host.Outcome State Fault Refusal :=
  load16 addr (loadReg16 .sp) s

/-- SUBD, EXT, opcode 0xBE (R321). -/
def execSubdExt (addr : Word) (s : State) : Host.Outcome State Fault Refusal :=
  load16 addr subD s

/-- ADDD, EXT, opcode 0xBF (R323). -/
def execAdddExt (addr : Word) (s : State) : Host.Outcome State Fault Refusal :=
  load16 addr addD s

/-- BSR, REL, opcode 0xC9 (R311). -/
def execBsr (rel : Byte) (s : State) : Host.Outcome State Fault Refusal :=
  callAt (s.pc + sext16 rel) s

/-- AIX, IMM8S, opcode 0xCB (R314). -/
def execAix (imm : Byte) (s : State) : Host.Outcome State Fault Refusal :=
  .next (s.setIx (s.ix + sext16 imm))

/-- CPX, IMM16, opcode 0xCC (R318). -/
def execCpxImm (w : Word) (s : State) : Host.Outcome State Fault Refusal :=
  .next (compare16 .ix w s)

/-- LDX, IMM16, opcode 0xCD (R320). -/
def execLdxImm (w : Word) (s : State) : Host.Outcome State Fault Refusal :=
  .next (loadReg16 .ix w s)

/-- CPD, IMM16, opcode 0xCE (R322). -/
def execCpdImm (w : Word) (s : State) : Host.Outcome State Fault Refusal :=
  .next (compare16 .d w s)

/-- LDD, IMM16, opcode 0xCF (R324). -/
def execLddImm (w : Word) (s : State) : Host.Outcome State Fault Refusal :=
  .next (loadReg16 .d w s)

/-- JSR, DIR, opcode 0xD9 (R312). -/
def execJsrDir (addr : Byte) (s : State) : Host.Outcome State Fault Refusal :=
  callAt (eaDir addr) s

/-- STX, DIR, opcode 0xDB (R316). -/
def execStxDir (addr : Byte) (s : State) : Host.Outcome State Fault Refusal :=
  storeReg16 .ix (eaDir addr) s

/-- CPX, DIR, opcode 0xDC (R318). -/
def execCpxDir (addr : Byte) (s : State) : Host.Outcome State Fault Refusal :=
  load16 (eaDir addr) (compare16 .ix) s

/-- LDX, DIR, opcode 0xDD (R320). -/
def execLdxDir (addr : Byte) (s : State) : Host.Outcome State Fault Refusal :=
  load16 (eaDir addr) (loadReg16 .ix) s

/-- CPD, DIR, opcode 0xDE (R322). -/
def execCpdDir (addr : Byte) (s : State) : Host.Outcome State Fault Refusal :=
  load16 (eaDir addr) (compare16 .d) s

/-- LDD, DIR, opcode 0xDF (R324). -/
def execLddDir (addr : Byte) (s : State) : Host.Outcome State Fault Refusal :=
  load16 (eaDir addr) (loadReg16 .d) s

/-- JSR, IX, opcode 0xE9 (R312). -/
def execJsrIx (off : Byte) (s : State) : Host.Outcome State Fault Refusal :=
  callAt (eaIx off s) s

/-- STX, IX, opcode 0xEB (R316). -/
def execStxIx (off : Byte) (s : State) : Host.Outcome State Fault Refusal :=
  storeReg16 .ix (eaIx off s) s

/-- CPX, IX, opcode 0xEC (R318). -/
def execCpxIx (off : Byte) (s : State) : Host.Outcome State Fault Refusal :=
  load16 (eaIx off s) (compare16 .ix) s

/-- LDX, IX, opcode 0xED (R320). -/
def execLdxIx (off : Byte) (s : State) : Host.Outcome State Fault Refusal :=
  load16 (eaIx off s) (loadReg16 .ix) s

/-- CPD, IX, opcode 0xEE (R322). -/
def execCpdIx (off : Byte) (s : State) : Host.Outcome State Fault Refusal :=
  load16 (eaIx off s) (compare16 .d) s

/-- LDD, IX, opcode 0xEF (R324). -/
def execLddIx (off : Byte) (s : State) : Host.Outcome State Fault Refusal :=
  load16 (eaIx off s) (loadReg16 .d) s

/-- JSR, EXT, opcode 0xF9 (R312). -/
def execJsrExt (addr : Word) (s : State) : Host.Outcome State Fault Refusal :=
  callAt addr s

/-- STX, EXT, opcode 0xFB (R316). -/
def execStxExt (addr : Word) (s : State) : Host.Outcome State Fault Refusal :=
  storeReg16 .ix addr s

/-- CPX, EXT, opcode 0xFC (R318). -/
def execCpxExt (addr : Word) (s : State) : Host.Outcome State Fault Refusal :=
  load16 addr (compare16 .ix) s

/-- LDX, EXT, opcode 0xFD (R320). -/
def execLdxExt (addr : Word) (s : State) : Host.Outcome State Fault Refusal :=
  load16 addr (loadReg16 .ix) s

/-- CPD, EXT, opcode 0xFE (R322). -/
def execCpdExt (addr : Word) (s : State) : Host.Outcome State Fault Refusal :=
  load16 addr (compare16 .d) s

/-- LDD, EXT, opcode 0xFF (R324). -/
def execLddExt (addr : Word) (s : State) : Host.Outcome State Fault Refusal :=
  load16 addr (loadReg16 .d) s

end Sys2Proof.Machine
end

