-- ==== Sys2Proof/Machine/RegMem8.lean ====
section
/-! DEFINITION. The 8-bit register/memory instructions (45_regmem_8bit.md R280 to R301), each one line over its operation on an
accumulator and its operand form. -/

namespace Sys2Proof.Machine

/-- SUB (R281, R292). -/
def subAcc (r : Acc) (v : Byte) (s : State) : State :=
  (s.setAcc r (subFlags (s.acc r) v false).r).setCcr (s.ccr.arith (subFlags (s.acc r) v false))

/-- SBC: the old C is the borrow in (R282, R293). -/
def sbcAcc (r : Acc) (v : Byte) (s : State) : State :=
  (s.setAcc r (subFlags (s.acc r) v s.ccr.c).r).setCcr (s.ccr.arith (subFlags (s.acc r) v s.ccr.c))

/-- ADD (R283, R294). -/
def addAcc (r : Acc) (v : Byte) (s : State) : State :=
  (s.setAcc r (addFlags (s.acc r) v false).r).setCcr (s.ccr.arith (addFlags (s.acc r) v false))

/-- ADC: the old C is the carry in (R288, R299). -/
def adcAcc (r : Acc) (v : Byte) (s : State) : State :=
  (s.setAcc r (addFlags (s.acc r) v s.ccr.c).r).setCcr (s.ccr.arith (addFlags (s.acc r) v s.ccr.c))

/-- CMP: the flags of SUB, the result discarded (R289, R300). -/
def cmpAcc (r : Acc) (v : Byte) (s : State) : State := s.setCcr (s.ccr.arith (subFlags (s.acc r) v false))

/-- AND (R284, R295). -/
def andAcc (r : Acc) (v : Byte) (s : State) : State := (s.setAcc r (s.acc r &&& v)).setCcr (s.ccr.logic (s.acc r &&& v))

/-- ORA (R286, R297). -/
def oraAcc (r : Acc) (v : Byte) (s : State) : State := (s.setAcc r (s.acc r ||| v)).setCcr (s.ccr.logic (s.acc r ||| v))

/-- EOR (R287, R298). -/
def eorAcc (r : Acc) (v : Byte) (s : State) : State := (s.setAcc r (s.acc r ^^^ v)).setCcr (s.ccr.logic (s.acc r ^^^ v))

/-- LDA (R285, R296). -/
def ldaAcc (r : Acc) (v : Byte) (s : State) : State := (s.setAcc r v).setCcr (s.ccr.logic v)

/-- BIT: the flags of AND, the result discarded (R290). -/
def bitAcc (r : Acc) (v : Byte) (s : State) : State := s.setCcr (s.ccr.logic (s.acc r &&& v))

/-- STA: store the accumulator, with the flags of the logic group from the value stored (R291, R301). -/
def staAcc (r : Acc) (ea : Word) (s : State) : Res State :=
  andThen (write8 ea (s.acc r) s) fun t => .next (t.setCcr (t.ccr.logic (s.acc r)))

/-- SUBA, IX+, opcode 0x70 (R281). -/
def execSubaIxp (off : Option Byte) (s : State) : Host.Outcome State Fault Refusal :=
  postInc 1 (load8 (eaIxp off s) (subAcc .a) s)

/-- SBCA, IX+, opcode 0x71 (R282). -/
def execSbcaIxp (off : Option Byte) (s : State) : Host.Outcome State Fault Refusal :=
  postInc 1 (load8 (eaIxp off s) (sbcAcc .a) s)

/-- ADDA, IX+, opcode 0x72 (R283). -/
def execAddaIxp (off : Option Byte) (s : State) : Host.Outcome State Fault Refusal :=
  postInc 1 (load8 (eaIxp off s) (addAcc .a) s)

/-- ANDA, IX+, opcode 0x73 (R284). -/
def execAndaIxp (off : Option Byte) (s : State) : Host.Outcome State Fault Refusal :=
  postInc 1 (load8 (eaIxp off s) (andAcc .a) s)

/-- LDAA, IX+, opcode 0x74 (R285). -/
def execLdaaIxp (off : Option Byte) (s : State) : Host.Outcome State Fault Refusal :=
  postInc 1 (load8 (eaIxp off s) (ldaAcc .a) s)

/-- ORAA, IX+, opcode 0x75 (R286). -/
def execOraaIxp (off : Option Byte) (s : State) : Host.Outcome State Fault Refusal :=
  postInc 1 (load8 (eaIxp off s) (oraAcc .a) s)

/-- EORA, IX+, opcode 0x76 (R287). -/
def execEoraIxp (off : Option Byte) (s : State) : Host.Outcome State Fault Refusal :=
  postInc 1 (load8 (eaIxp off s) (eorAcc .a) s)

/-- ADCA, IX+, opcode 0x77 (R288). -/
def execAdcaIxp (off : Option Byte) (s : State) : Host.Outcome State Fault Refusal :=
  postInc 1 (load8 (eaIxp off s) (adcAcc .a) s)

/-- CMPA, IX+, opcode 0x78 (R289). -/
def execCmpaIxp (off : Option Byte) (s : State) : Host.Outcome State Fault Refusal :=
  postInc 1 (load8 (eaIxp off s) (cmpAcc .a) s)

/-- BITA, IX+, opcode 0x79 (R290). -/
def execBitaIxp (off : Option Byte) (s : State) : Host.Outcome State Fault Refusal :=
  postInc 1 (load8 (eaIxp off s) (bitAcc .a) s)

/-- STAA, IX+, opcode 0x7A (R291). -/
def execStaaIxp (off : Option Byte) (s : State) : Host.Outcome State Fault Refusal :=
  postInc 1 (staAcc .a (eaIxp off s) s)

/-- SUBA, IMM8, opcode 0x80 (R281). -/
def execSubaImm (v : Byte) (s : State) : Host.Outcome State Fault Refusal :=
  .next (subAcc .a v s)

/-- SBCA, IMM8, opcode 0x81 (R282). -/
def execSbcaImm (v : Byte) (s : State) : Host.Outcome State Fault Refusal :=
  .next (sbcAcc .a v s)

/-- ADDA, IMM8, opcode 0x82 (R283). -/
def execAddaImm (v : Byte) (s : State) : Host.Outcome State Fault Refusal :=
  .next (addAcc .a v s)

/-- ANDA, IMM8, opcode 0x83 (R284). -/
def execAndaImm (v : Byte) (s : State) : Host.Outcome State Fault Refusal :=
  .next (andAcc .a v s)

/-- LDAA, IMM8, opcode 0x84 (R285). -/
def execLdaaImm (v : Byte) (s : State) : Host.Outcome State Fault Refusal :=
  .next (ldaAcc .a v s)

/-- ORAA, IMM8, opcode 0x85 (R286). -/
def execOraaImm (v : Byte) (s : State) : Host.Outcome State Fault Refusal :=
  .next (oraAcc .a v s)

/-- EORA, IMM8, opcode 0x86 (R287). -/
def execEoraImm (v : Byte) (s : State) : Host.Outcome State Fault Refusal :=
  .next (eorAcc .a v s)

/-- ADCA, IMM8, opcode 0x87 (R288). -/
def execAdcaImm (v : Byte) (s : State) : Host.Outcome State Fault Refusal :=
  .next (adcAcc .a v s)

/-- CMPA, IMM8, opcode 0x88 (R289). -/
def execCmpaImm (v : Byte) (s : State) : Host.Outcome State Fault Refusal :=
  .next (cmpAcc .a v s)

/-- BITA, IMM8, opcode 0x89 (R290). -/
def execBitaImm (v : Byte) (s : State) : Host.Outcome State Fault Refusal :=
  .next (bitAcc .a v s)

/-- SUBA, DIR, opcode 0x90 (R281). -/
def execSubaDir (addr : Byte) (s : State) : Host.Outcome State Fault Refusal :=
  load8 (eaDir addr) (subAcc .a) s

/-- SBCA, DIR, opcode 0x91 (R282). -/
def execSbcaDir (addr : Byte) (s : State) : Host.Outcome State Fault Refusal :=
  load8 (eaDir addr) (sbcAcc .a) s

/-- ADDA, DIR, opcode 0x92 (R283). -/
def execAddaDir (addr : Byte) (s : State) : Host.Outcome State Fault Refusal :=
  load8 (eaDir addr) (addAcc .a) s

/-- ANDA, DIR, opcode 0x93 (R284). -/
def execAndaDir (addr : Byte) (s : State) : Host.Outcome State Fault Refusal :=
  load8 (eaDir addr) (andAcc .a) s

/-- LDAA, DIR, opcode 0x94 (R285). -/
def execLdaaDir (addr : Byte) (s : State) : Host.Outcome State Fault Refusal :=
  load8 (eaDir addr) (ldaAcc .a) s

/-- ORAA, DIR, opcode 0x95 (R286). -/
def execOraaDir (addr : Byte) (s : State) : Host.Outcome State Fault Refusal :=
  load8 (eaDir addr) (oraAcc .a) s

/-- EORA, DIR, opcode 0x96 (R287). -/
def execEoraDir (addr : Byte) (s : State) : Host.Outcome State Fault Refusal :=
  load8 (eaDir addr) (eorAcc .a) s

/-- ADCA, DIR, opcode 0x97 (R288). -/
def execAdcaDir (addr : Byte) (s : State) : Host.Outcome State Fault Refusal :=
  load8 (eaDir addr) (adcAcc .a) s

/-- CMPA, DIR, opcode 0x98 (R289). -/
def execCmpaDir (addr : Byte) (s : State) : Host.Outcome State Fault Refusal :=
  load8 (eaDir addr) (cmpAcc .a) s

/-- BITA, DIR, opcode 0x99 (R290). -/
def execBitaDir (addr : Byte) (s : State) : Host.Outcome State Fault Refusal :=
  load8 (eaDir addr) (bitAcc .a) s

/-- STAA, DIR, opcode 0x9A (R291). -/
def execStaaDir (addr : Byte) (s : State) : Host.Outcome State Fault Refusal :=
  staAcc .a (eaDir addr) s

/-- SUBA, IX, opcode 0xA0 (R281). -/
def execSubaIx (off : Byte) (s : State) : Host.Outcome State Fault Refusal :=
  load8 (eaIx off s) (subAcc .a) s

/-- SBCA, IX, opcode 0xA1 (R282). -/
def execSbcaIx (off : Byte) (s : State) : Host.Outcome State Fault Refusal :=
  load8 (eaIx off s) (sbcAcc .a) s

/-- ADDA, IX, opcode 0xA2 (R283). -/
def execAddaIx (off : Byte) (s : State) : Host.Outcome State Fault Refusal :=
  load8 (eaIx off s) (addAcc .a) s

/-- ANDA, IX, opcode 0xA3 (R284). -/
def execAndaIx (off : Byte) (s : State) : Host.Outcome State Fault Refusal :=
  load8 (eaIx off s) (andAcc .a) s

/-- LDAA, IX, opcode 0xA4 (R285). -/
def execLdaaIx (off : Byte) (s : State) : Host.Outcome State Fault Refusal :=
  load8 (eaIx off s) (ldaAcc .a) s

/-- ORAA, IX, opcode 0xA5 (R286). -/
def execOraaIx (off : Byte) (s : State) : Host.Outcome State Fault Refusal :=
  load8 (eaIx off s) (oraAcc .a) s

/-- EORA, IX, opcode 0xA6 (R287). -/
def execEoraIx (off : Byte) (s : State) : Host.Outcome State Fault Refusal :=
  load8 (eaIx off s) (eorAcc .a) s

/-- ADCA, IX, opcode 0xA7 (R288). -/
def execAdcaIx (off : Byte) (s : State) : Host.Outcome State Fault Refusal :=
  load8 (eaIx off s) (adcAcc .a) s

/-- CMPA, IX, opcode 0xA8 (R289). -/
def execCmpaIx (off : Byte) (s : State) : Host.Outcome State Fault Refusal :=
  load8 (eaIx off s) (cmpAcc .a) s

/-- BITA, IX, opcode 0xA9 (R290). -/
def execBitaIx (off : Byte) (s : State) : Host.Outcome State Fault Refusal :=
  load8 (eaIx off s) (bitAcc .a) s

/-- STAA, IX, opcode 0xAA (R291). -/
def execStaaIx (off : Byte) (s : State) : Host.Outcome State Fault Refusal :=
  staAcc .a (eaIx off s) s

/-- SUBA, EXT, opcode 0xB0 (R281). -/
def execSubaExt (addr : Word) (s : State) : Host.Outcome State Fault Refusal :=
  load8 addr (subAcc .a) s

/-- SBCA, EXT, opcode 0xB1 (R282). -/
def execSbcaExt (addr : Word) (s : State) : Host.Outcome State Fault Refusal :=
  load8 addr (sbcAcc .a) s

/-- ADDA, EXT, opcode 0xB2 (R283). -/
def execAddaExt (addr : Word) (s : State) : Host.Outcome State Fault Refusal :=
  load8 addr (addAcc .a) s

/-- ANDA, EXT, opcode 0xB3 (R284). -/
def execAndaExt (addr : Word) (s : State) : Host.Outcome State Fault Refusal :=
  load8 addr (andAcc .a) s

/-- LDAA, EXT, opcode 0xB4 (R285). -/
def execLdaaExt (addr : Word) (s : State) : Host.Outcome State Fault Refusal :=
  load8 addr (ldaAcc .a) s

/-- ORAA, EXT, opcode 0xB5 (R286). -/
def execOraaExt (addr : Word) (s : State) : Host.Outcome State Fault Refusal :=
  load8 addr (oraAcc .a) s

/-- EORA, EXT, opcode 0xB6 (R287). -/
def execEoraExt (addr : Word) (s : State) : Host.Outcome State Fault Refusal :=
  load8 addr (eorAcc .a) s

/-- ADCA, EXT, opcode 0xB7 (R288). -/
def execAdcaExt (addr : Word) (s : State) : Host.Outcome State Fault Refusal :=
  load8 addr (adcAcc .a) s

/-- CMPA, EXT, opcode 0xB8 (R289). -/
def execCmpaExt (addr : Word) (s : State) : Host.Outcome State Fault Refusal :=
  load8 addr (cmpAcc .a) s

/-- BITA, EXT, opcode 0xB9 (R290). -/
def execBitaExt (addr : Word) (s : State) : Host.Outcome State Fault Refusal :=
  load8 addr (bitAcc .a) s

/-- STAA, EXT, opcode 0xBA (R291). -/
def execStaaExt (addr : Word) (s : State) : Host.Outcome State Fault Refusal :=
  staAcc .a addr s

/-- SUBB, IMM8, opcode 0xC0 (R292). -/
def execSubbImm (v : Byte) (s : State) : Host.Outcome State Fault Refusal :=
  .next (subAcc .b v s)

/-- SBCB, IMM8, opcode 0xC1 (R293). -/
def execSbcbImm (v : Byte) (s : State) : Host.Outcome State Fault Refusal :=
  .next (sbcAcc .b v s)

/-- ADDB, IMM8, opcode 0xC2 (R294). -/
def execAddbImm (v : Byte) (s : State) : Host.Outcome State Fault Refusal :=
  .next (addAcc .b v s)

/-- ANDB, IMM8, opcode 0xC3 (R295). -/
def execAndbImm (v : Byte) (s : State) : Host.Outcome State Fault Refusal :=
  .next (andAcc .b v s)

/-- LDAB, IMM8, opcode 0xC4 (R296). -/
def execLdabImm (v : Byte) (s : State) : Host.Outcome State Fault Refusal :=
  .next (ldaAcc .b v s)

/-- ORAB, IMM8, opcode 0xC5 (R297). -/
def execOrabImm (v : Byte) (s : State) : Host.Outcome State Fault Refusal :=
  .next (oraAcc .b v s)

/-- EORB, IMM8, opcode 0xC6 (R298). -/
def execEorbImm (v : Byte) (s : State) : Host.Outcome State Fault Refusal :=
  .next (eorAcc .b v s)

/-- ADCB, IMM8, opcode 0xC7 (R299). -/
def execAdcbImm (v : Byte) (s : State) : Host.Outcome State Fault Refusal :=
  .next (adcAcc .b v s)

/-- CMPB, IMM8, opcode 0xC8 (R300). -/
def execCmpbImm (v : Byte) (s : State) : Host.Outcome State Fault Refusal :=
  .next (cmpAcc .b v s)

/-- SUBB, DIR, opcode 0xD0 (R292). -/
def execSubbDir (addr : Byte) (s : State) : Host.Outcome State Fault Refusal :=
  load8 (eaDir addr) (subAcc .b) s

/-- SBCB, DIR, opcode 0xD1 (R293). -/
def execSbcbDir (addr : Byte) (s : State) : Host.Outcome State Fault Refusal :=
  load8 (eaDir addr) (sbcAcc .b) s

/-- ADDB, DIR, opcode 0xD2 (R294). -/
def execAddbDir (addr : Byte) (s : State) : Host.Outcome State Fault Refusal :=
  load8 (eaDir addr) (addAcc .b) s

/-- ANDB, DIR, opcode 0xD3 (R295). -/
def execAndbDir (addr : Byte) (s : State) : Host.Outcome State Fault Refusal :=
  load8 (eaDir addr) (andAcc .b) s

/-- LDAB, DIR, opcode 0xD4 (R296). -/
def execLdabDir (addr : Byte) (s : State) : Host.Outcome State Fault Refusal :=
  load8 (eaDir addr) (ldaAcc .b) s

/-- ORAB, DIR, opcode 0xD5 (R297). -/
def execOrabDir (addr : Byte) (s : State) : Host.Outcome State Fault Refusal :=
  load8 (eaDir addr) (oraAcc .b) s

/-- EORB, DIR, opcode 0xD6 (R298). -/
def execEorbDir (addr : Byte) (s : State) : Host.Outcome State Fault Refusal :=
  load8 (eaDir addr) (eorAcc .b) s

/-- ADCB, DIR, opcode 0xD7 (R299). -/
def execAdcbDir (addr : Byte) (s : State) : Host.Outcome State Fault Refusal :=
  load8 (eaDir addr) (adcAcc .b) s

/-- CMPB, DIR, opcode 0xD8 (R300). -/
def execCmpbDir (addr : Byte) (s : State) : Host.Outcome State Fault Refusal :=
  load8 (eaDir addr) (cmpAcc .b) s

/-- STAB, DIR, opcode 0xDA (R301). -/
def execStabDir (addr : Byte) (s : State) : Host.Outcome State Fault Refusal :=
  staAcc .b (eaDir addr) s

/-- SUBB, IX, opcode 0xE0 (R292). -/
def execSubbIx (off : Byte) (s : State) : Host.Outcome State Fault Refusal :=
  load8 (eaIx off s) (subAcc .b) s

/-- SBCB, IX, opcode 0xE1 (R293). -/
def execSbcbIx (off : Byte) (s : State) : Host.Outcome State Fault Refusal :=
  load8 (eaIx off s) (sbcAcc .b) s

/-- ADDB, IX, opcode 0xE2 (R294). -/
def execAddbIx (off : Byte) (s : State) : Host.Outcome State Fault Refusal :=
  load8 (eaIx off s) (addAcc .b) s

/-- ANDB, IX, opcode 0xE3 (R295). -/
def execAndbIx (off : Byte) (s : State) : Host.Outcome State Fault Refusal :=
  load8 (eaIx off s) (andAcc .b) s

/-- LDAB, IX, opcode 0xE4 (R296). -/
def execLdabIx (off : Byte) (s : State) : Host.Outcome State Fault Refusal :=
  load8 (eaIx off s) (ldaAcc .b) s

/-- ORAB, IX, opcode 0xE5 (R297). -/
def execOrabIx (off : Byte) (s : State) : Host.Outcome State Fault Refusal :=
  load8 (eaIx off s) (oraAcc .b) s

/-- EORB, IX, opcode 0xE6 (R298). -/
def execEorbIx (off : Byte) (s : State) : Host.Outcome State Fault Refusal :=
  load8 (eaIx off s) (eorAcc .b) s

/-- ADCB, IX, opcode 0xE7 (R299). -/
def execAdcbIx (off : Byte) (s : State) : Host.Outcome State Fault Refusal :=
  load8 (eaIx off s) (adcAcc .b) s

/-- CMPB, IX, opcode 0xE8 (R300). -/
def execCmpbIx (off : Byte) (s : State) : Host.Outcome State Fault Refusal :=
  load8 (eaIx off s) (cmpAcc .b) s

/-- STAB, IX, opcode 0xEA (R301). -/
def execStabIx (off : Byte) (s : State) : Host.Outcome State Fault Refusal :=
  staAcc .b (eaIx off s) s

/-- SUBB, EXT, opcode 0xF0 (R292). -/
def execSubbExt (addr : Word) (s : State) : Host.Outcome State Fault Refusal :=
  load8 addr (subAcc .b) s

/-- SBCB, EXT, opcode 0xF1 (R293). -/
def execSbcbExt (addr : Word) (s : State) : Host.Outcome State Fault Refusal :=
  load8 addr (sbcAcc .b) s

/-- ADDB, EXT, opcode 0xF2 (R294). -/
def execAddbExt (addr : Word) (s : State) : Host.Outcome State Fault Refusal :=
  load8 addr (addAcc .b) s

/-- ANDB, EXT, opcode 0xF3 (R295). -/
def execAndbExt (addr : Word) (s : State) : Host.Outcome State Fault Refusal :=
  load8 addr (andAcc .b) s

/-- LDAB, EXT, opcode 0xF4 (R296). -/
def execLdabExt (addr : Word) (s : State) : Host.Outcome State Fault Refusal :=
  load8 addr (ldaAcc .b) s

/-- ORAB, EXT, opcode 0xF5 (R297). -/
def execOrabExt (addr : Word) (s : State) : Host.Outcome State Fault Refusal :=
  load8 addr (oraAcc .b) s

/-- EORB, EXT, opcode 0xF6 (R298). -/
def execEorbExt (addr : Word) (s : State) : Host.Outcome State Fault Refusal :=
  load8 addr (eorAcc .b) s

/-- ADCB, EXT, opcode 0xF7 (R299). -/
def execAdcbExt (addr : Word) (s : State) : Host.Outcome State Fault Refusal :=
  load8 addr (adcAcc .b) s

/-- CMPB, EXT, opcode 0xF8 (R300). -/
def execCmpbExt (addr : Word) (s : State) : Host.Outcome State Fault Refusal :=
  load8 addr (cmpAcc .b) s

/-- STAB, EXT, opcode 0xFA (R301). -/
def execStabExt (addr : Word) (s : State) : Host.Outcome State Fault Refusal :=
  staAcc .b addr s

end Sys2Proof.Machine
end

