-- ==== Sys2Proof/Machine/StackIndex.lean ====
section
/-! DEFINITION. The column 2 inherent instructions: stack, index register, return, wait, software interrupt (42_stack_index.md R190
to R206). -/

namespace Sys2Proof.Machine

/-- TSX, INH, opcode 0x20 (R191). -/
def execTsx (s : State) : Host.Outcome State Fault Refusal :=
  .next (s.setIx (s.sp + 1))

/-- TXS, INH, opcode 0x21 (R192). -/
def execTxs (s : State) : Host.Outcome State Fault Refusal :=
  .next (s.setSp (s.ix - 1))

/-- INS, INH, opcode 0x22 (R193). -/
def execIns (s : State) : Host.Outcome State Fault Refusal :=
  .next (s.setSp (s.sp + 1))

/-- DES, INH, opcode 0x23 (R194). -/
def execDes (s : State) : Host.Outcome State Fault Refusal :=
  .next (s.setSp (s.sp - 1))

/-- INX, INH, opcode 0x24 (R195). -/
def execInx (s : State) : Host.Outcome State Fault Refusal :=
  .next (s.setIx (s.ix + 1))

/-- DEX, INH, opcode 0x25 (R196). -/
def execDex (s : State) : Host.Outcome State Fault Refusal :=
  .next (s.setIx (s.ix - 1))

/-- PULX, INH, opcode 0x26 (R197). -/
def execPulx (s : State) : Host.Outcome State Fault Refusal :=
  andThen (pull16 s) fun p => .next (p.2.setIx p.1)

/-- PSHX, INH, opcode 0x27 (R198). -/
def execPshx (s : State) : Host.Outcome State Fault Refusal :=
  push16 s.ix s

/-- PULA, INH, opcode 0x28 (R199). -/
def execPula (s : State) : Host.Outcome State Fault Refusal :=
  andThen (pull8 s) fun p => .next (p.2.setA p.1)

/-- PULB, INH, opcode 0x29 (R200). -/
def execPulb (s : State) : Host.Outcome State Fault Refusal :=
  andThen (pull8 s) fun p => .next (p.2.setB p.1)

/-- PSHA, INH, opcode 0x2A (R201). -/
def execPsha (s : State) : Host.Outcome State Fault Refusal :=
  push8 s.a s

/-- PSHB, INH, opcode 0x2B (R202). -/
def execPshb (s : State) : Host.Outcome State Fault Refusal :=
  push8 s.b s

/-- RTS, INH, opcode 0x2C (R203). -/
def execRts (s : State) : Host.Outcome State Fault Refusal :=
  andThen (pull16 s) fun p => .next (p.2.setPc p.1)

/-- RTI, INH, opcode 0x2D (R204). -/
def execRti (s : State) : Host.Outcome State Fault Refusal :=
  trapReturn s

/-- WAIT, INH, opcode 0x2E (R205). The processor stops fetching until an interrupt is recognised (R365; log 12). -/
def execWait (s : State) : Host.Outcome State Fault Refusal :=
  .next (s.setRun .waiting)

/-- SWI, INH, opcode 0x2F (R206). -/
def execSwi (s : State) : Host.Outcome State Fault Refusal :=
  trapEntry swiVector s

end Sys2Proof.Machine
end

