-- ==== Sys2Proof/Machine/Dispatch.lean ====
section
/-! DEFINITION. One arm per constructor of Instr, each one direct call of that instruction's meaning. -/

namespace Sys2Proof.Machine

def exec (i : Instr) (s : State) : Host.Outcome State Fault Refusal :=
  match i with
  | .nop => Sys2Proof.Machine.execNop s
  | .stop => Sys2Proof.Machine.execStop s
  | .dabnz rel => Sys2Proof.Machine.execDabnz rel s
  | .dbbnz rel => Sys2Proof.Machine.execDbbnz rel s
  | .brn rel => Sys2Proof.Machine.execBrn rel s
  | .bra rel => Sys2Proof.Machine.execBra rel s
  | .bil rel => Sys2Proof.Machine.execBil rel s
  | .bih rel => Sys2Proof.Machine.execBih rel s
  | .idiv => Sys2Proof.Machine.execIdiv s
  | .mul => Sys2Proof.Machine.execMul s
  | .clv => Sys2Proof.Machine.execClv s
  | .sev => Sys2Proof.Machine.execSev s
  | .clc => Sys2Proof.Machine.execClc s
  | .sec => Sys2Proof.Machine.execSec s
  | .cli => Sys2Proof.Machine.execCli s
  | .sei => Sys2Proof.Machine.execSei s
  | .bhcc rel => Sys2Proof.Machine.execBhcc rel s
  | .bhcs rel => Sys2Proof.Machine.execBhcs rel s
  | .bhi rel => Sys2Proof.Machine.execBhi rel s
  | .bls rel => Sys2Proof.Machine.execBls rel s
  | .bcc rel => Sys2Proof.Machine.execBcc rel s
  | .bcs rel => Sys2Proof.Machine.execBcs rel s
  | .bne rel => Sys2Proof.Machine.execBne rel s
  | .beq rel => Sys2Proof.Machine.execBeq rel s
  | .bvc rel => Sys2Proof.Machine.execBvc rel s
  | .bvs rel => Sys2Proof.Machine.execBvs rel s
  | .bpl rel => Sys2Proof.Machine.execBpl rel s
  | .bmi rel => Sys2Proof.Machine.execBmi rel s
  | .bge rel => Sys2Proof.Machine.execBge rel s
  | .blt rel => Sys2Proof.Machine.execBlt rel s
  | .bgt rel => Sys2Proof.Machine.execBgt rel s
  | .ble rel => Sys2Proof.Machine.execBle rel s
  | .tsx => Sys2Proof.Machine.execTsx s
  | .txs => Sys2Proof.Machine.execTxs s
  | .ins => Sys2Proof.Machine.execIns s
  | .des => Sys2Proof.Machine.execDes s
  | .inx => Sys2Proof.Machine.execInx s
  | .dex => Sys2Proof.Machine.execDex s
  | .pulx => Sys2Proof.Machine.execPulx s
  | .pshx => Sys2Proof.Machine.execPshx s
  | .pula => Sys2Proof.Machine.execPula s
  | .pulb => Sys2Proof.Machine.execPulb s
  | .psha => Sys2Proof.Machine.execPsha s
  | .pshb => Sys2Proof.Machine.execPshb s
  | .rts => Sys2Proof.Machine.execRts s
  | .rti => Sys2Proof.Machine.execRti s
  | .wait => Sys2Proof.Machine.execWait s
  | .swi => Sys2Proof.Machine.execSwi s
  | .nega => Sys2Proof.Machine.execNega s
  | .clra => Sys2Proof.Machine.execClra s
  | .inca => Sys2Proof.Machine.execInca s
  | .deca => Sys2Proof.Machine.execDeca s
  | .lsra => Sys2Proof.Machine.execLsra s
  | .rora => Sys2Proof.Machine.execRora s
  | .asra => Sys2Proof.Machine.execAsra s
  | .lsla => Sys2Proof.Machine.execLsla s
  | .rola => Sys2Proof.Machine.execRola s
  | .tsta => Sys2Proof.Machine.execTsta s
  | .tdx => Sys2Proof.Machine.execTdx s
  | .tba => Sys2Proof.Machine.execTba s
  | .sba => Sys2Proof.Machine.execSba s
  | .aba => Sys2Proof.Machine.execAba s
  | .negb => Sys2Proof.Machine.execNegb s
  | .clrb => Sys2Proof.Machine.execClrb s
  | .incb => Sys2Proof.Machine.execIncb s
  | .decb => Sys2Proof.Machine.execDecb s
  | .lsrb => Sys2Proof.Machine.execLsrb s
  | .rorb => Sys2Proof.Machine.execRorb s
  | .asrb => Sys2Proof.Machine.execAsrb s
  | .lslb => Sys2Proof.Machine.execLslb s
  | .rolb => Sys2Proof.Machine.execRolb s
  | .tstb => Sys2Proof.Machine.execTstb s
  | .tab => Sys2Proof.Machine.execTab s
  | .cba => Sys2Proof.Machine.execCba s
  | .negIx off => Sys2Proof.Machine.execNegIx off s
  | .clrIx off => Sys2Proof.Machine.execClrIx off s
  | .incIx off => Sys2Proof.Machine.execIncIx off s
  | .decIx off => Sys2Proof.Machine.execDecIx off s
  | .lsrIx off => Sys2Proof.Machine.execLsrIx off s
  | .rorIx off => Sys2Proof.Machine.execRorIx off s
  | .asrIx off => Sys2Proof.Machine.execAsrIx off s
  | .lslIx off => Sys2Proof.Machine.execLslIx off s
  | .rolIx off => Sys2Proof.Machine.execRolIx off s
  | .tstIx off => Sys2Proof.Machine.execTstIx off s
  | .brsetIx off m rel => Sys2Proof.Machine.execBrsetIx off m rel s
  | .brclrIx off m rel => Sys2Proof.Machine.execBrclrIx off m rel s
  | .bclrIx off m => Sys2Proof.Machine.execBclrIx off m s
  | .bsetIx off m => Sys2Proof.Machine.execBsetIx off m s
  | .movIx off m => Sys2Proof.Machine.execMovIx off m s
  | .jmpIx off => Sys2Proof.Machine.execJmpIx off s
  | .negExt addr => Sys2Proof.Machine.execNegExt addr s
  | .clrExt addr => Sys2Proof.Machine.execClrExt addr s
  | .incExt addr => Sys2Proof.Machine.execIncExt addr s
  | .decExt addr => Sys2Proof.Machine.execDecExt addr s
  | .lsrExt addr => Sys2Proof.Machine.execLsrExt addr s
  | .rorExt addr => Sys2Proof.Machine.execRorExt addr s
  | .asrExt addr => Sys2Proof.Machine.execAsrExt addr s
  | .lslExt addr => Sys2Proof.Machine.execLslExt addr s
  | .rolExt addr => Sys2Proof.Machine.execRolExt addr s
  | .tstExt addr => Sys2Proof.Machine.execTstExt addr s
  | .brsetExt addr m rel => Sys2Proof.Machine.execBrsetExt addr m rel s
  | .brclrExt addr m rel => Sys2Proof.Machine.execBrclrExt addr m rel s
  | .bclrExt addr m => Sys2Proof.Machine.execBclrExt addr m s
  | .bsetExt addr m => Sys2Proof.Machine.execBsetExt addr m s
  | .movExt addr m => Sys2Proof.Machine.execMovExt addr m s
  | .jmpExt addr => Sys2Proof.Machine.execJmpExt addr s
  | .subaIxp off => Sys2Proof.Machine.execSubaIxp off s
  | .sbcaIxp off => Sys2Proof.Machine.execSbcaIxp off s
  | .addaIxp off => Sys2Proof.Machine.execAddaIxp off s
  | .andaIxp off => Sys2Proof.Machine.execAndaIxp off s
  | .ldaaIxp off => Sys2Proof.Machine.execLdaaIxp off s
  | .oraaIxp off => Sys2Proof.Machine.execOraaIxp off s
  | .eoraIxp off => Sys2Proof.Machine.execEoraIxp off s
  | .adcaIxp off => Sys2Proof.Machine.execAdcaIxp off s
  | .cmpaIxp off => Sys2Proof.Machine.execCmpaIxp off s
  | .bitaIxp off => Sys2Proof.Machine.execBitaIxp off s
  | .staaIxp off => Sys2Proof.Machine.execStaaIxp off s
  | .subdIxp off => Sys2Proof.Machine.execSubdIxp off s
  | .cpdIxp off => Sys2Proof.Machine.execCpdIxp off s
  | .adddIxp off => Sys2Proof.Machine.execAdddIxp off s
  | .subaImm v => Sys2Proof.Machine.execSubaImm v s
  | .sbcaImm v => Sys2Proof.Machine.execSbcaImm v s
  | .addaImm v => Sys2Proof.Machine.execAddaImm v s
  | .andaImm v => Sys2Proof.Machine.execAndaImm v s
  | .ldaaImm v => Sys2Proof.Machine.execLdaaImm v s
  | .oraaImm v => Sys2Proof.Machine.execOraaImm v s
  | .eoraImm v => Sys2Proof.Machine.execEoraImm v s
  | .adcaImm v => Sys2Proof.Machine.execAdcaImm v s
  | .cmpaImm v => Sys2Proof.Machine.execCmpaImm v s
  | .bitaImm v => Sys2Proof.Machine.execBitaImm v s
  | .ais imm => Sys2Proof.Machine.execAis imm s
  | .ldsImm w => Sys2Proof.Machine.execLdsImm w s
  | .subdImm w => Sys2Proof.Machine.execSubdImm w s
  | .adddImm w => Sys2Proof.Machine.execAdddImm w s
  | .subaDir addr => Sys2Proof.Machine.execSubaDir addr s
  | .sbcaDir addr => Sys2Proof.Machine.execSbcaDir addr s
  | .addaDir addr => Sys2Proof.Machine.execAddaDir addr s
  | .andaDir addr => Sys2Proof.Machine.execAndaDir addr s
  | .ldaaDir addr => Sys2Proof.Machine.execLdaaDir addr s
  | .oraaDir addr => Sys2Proof.Machine.execOraaDir addr s
  | .eoraDir addr => Sys2Proof.Machine.execEoraDir addr s
  | .adcaDir addr => Sys2Proof.Machine.execAdcaDir addr s
  | .cmpaDir addr => Sys2Proof.Machine.execCmpaDir addr s
  | .bitaDir addr => Sys2Proof.Machine.execBitaDir addr s
  | .staaDir addr => Sys2Proof.Machine.execStaaDir addr s
  | .stsDir addr => Sys2Proof.Machine.execStsDir addr s
  | .stdDir addr => Sys2Proof.Machine.execStdDir addr s
  | .ldsDir addr => Sys2Proof.Machine.execLdsDir addr s
  | .subdDir addr => Sys2Proof.Machine.execSubdDir addr s
  | .adddDir addr => Sys2Proof.Machine.execAdddDir addr s
  | .subaIx off => Sys2Proof.Machine.execSubaIx off s
  | .sbcaIx off => Sys2Proof.Machine.execSbcaIx off s
  | .addaIx off => Sys2Proof.Machine.execAddaIx off s
  | .andaIx off => Sys2Proof.Machine.execAndaIx off s
  | .ldaaIx off => Sys2Proof.Machine.execLdaaIx off s
  | .oraaIx off => Sys2Proof.Machine.execOraaIx off s
  | .eoraIx off => Sys2Proof.Machine.execEoraIx off s
  | .adcaIx off => Sys2Proof.Machine.execAdcaIx off s
  | .cmpaIx off => Sys2Proof.Machine.execCmpaIx off s
  | .bitaIx off => Sys2Proof.Machine.execBitaIx off s
  | .staaIx off => Sys2Proof.Machine.execStaaIx off s
  | .stsIx off => Sys2Proof.Machine.execStsIx off s
  | .stdIx off => Sys2Proof.Machine.execStdIx off s
  | .ldsIx off => Sys2Proof.Machine.execLdsIx off s
  | .subdIx off => Sys2Proof.Machine.execSubdIx off s
  | .adddIx off => Sys2Proof.Machine.execAdddIx off s
  | .subaExt addr => Sys2Proof.Machine.execSubaExt addr s
  | .sbcaExt addr => Sys2Proof.Machine.execSbcaExt addr s
  | .addaExt addr => Sys2Proof.Machine.execAddaExt addr s
  | .andaExt addr => Sys2Proof.Machine.execAndaExt addr s
  | .ldaaExt addr => Sys2Proof.Machine.execLdaaExt addr s
  | .oraaExt addr => Sys2Proof.Machine.execOraaExt addr s
  | .eoraExt addr => Sys2Proof.Machine.execEoraExt addr s
  | .adcaExt addr => Sys2Proof.Machine.execAdcaExt addr s
  | .cmpaExt addr => Sys2Proof.Machine.execCmpaExt addr s
  | .bitaExt addr => Sys2Proof.Machine.execBitaExt addr s
  | .staaExt addr => Sys2Proof.Machine.execStaaExt addr s
  | .stsExt addr => Sys2Proof.Machine.execStsExt addr s
  | .stdExt addr => Sys2Proof.Machine.execStdExt addr s
  | .ldsExt addr => Sys2Proof.Machine.execLdsExt addr s
  | .subdExt addr => Sys2Proof.Machine.execSubdExt addr s
  | .adddExt addr => Sys2Proof.Machine.execAdddExt addr s
  | .subbImm v => Sys2Proof.Machine.execSubbImm v s
  | .sbcbImm v => Sys2Proof.Machine.execSbcbImm v s
  | .addbImm v => Sys2Proof.Machine.execAddbImm v s
  | .andbImm v => Sys2Proof.Machine.execAndbImm v s
  | .ldabImm v => Sys2Proof.Machine.execLdabImm v s
  | .orabImm v => Sys2Proof.Machine.execOrabImm v s
  | .eorbImm v => Sys2Proof.Machine.execEorbImm v s
  | .adcbImm v => Sys2Proof.Machine.execAdcbImm v s
  | .cmpbImm v => Sys2Proof.Machine.execCmpbImm v s
  | .bsr rel => Sys2Proof.Machine.execBsr rel s
  | .aix imm => Sys2Proof.Machine.execAix imm s
  | .cpxImm w => Sys2Proof.Machine.execCpxImm w s
  | .ldxImm w => Sys2Proof.Machine.execLdxImm w s
  | .cpdImm w => Sys2Proof.Machine.execCpdImm w s
  | .lddImm w => Sys2Proof.Machine.execLddImm w s
  | .subbDir addr => Sys2Proof.Machine.execSubbDir addr s
  | .sbcbDir addr => Sys2Proof.Machine.execSbcbDir addr s
  | .addbDir addr => Sys2Proof.Machine.execAddbDir addr s
  | .andbDir addr => Sys2Proof.Machine.execAndbDir addr s
  | .ldabDir addr => Sys2Proof.Machine.execLdabDir addr s
  | .orabDir addr => Sys2Proof.Machine.execOrabDir addr s
  | .eorbDir addr => Sys2Proof.Machine.execEorbDir addr s
  | .adcbDir addr => Sys2Proof.Machine.execAdcbDir addr s
  | .cmpbDir addr => Sys2Proof.Machine.execCmpbDir addr s
  | .jsrDir addr => Sys2Proof.Machine.execJsrDir addr s
  | .stabDir addr => Sys2Proof.Machine.execStabDir addr s
  | .stxDir addr => Sys2Proof.Machine.execStxDir addr s
  | .cpxDir addr => Sys2Proof.Machine.execCpxDir addr s
  | .ldxDir addr => Sys2Proof.Machine.execLdxDir addr s
  | .cpdDir addr => Sys2Proof.Machine.execCpdDir addr s
  | .lddDir addr => Sys2Proof.Machine.execLddDir addr s
  | .subbIx off => Sys2Proof.Machine.execSubbIx off s
  | .sbcbIx off => Sys2Proof.Machine.execSbcbIx off s
  | .addbIx off => Sys2Proof.Machine.execAddbIx off s
  | .andbIx off => Sys2Proof.Machine.execAndbIx off s
  | .ldabIx off => Sys2Proof.Machine.execLdabIx off s
  | .orabIx off => Sys2Proof.Machine.execOrabIx off s
  | .eorbIx off => Sys2Proof.Machine.execEorbIx off s
  | .adcbIx off => Sys2Proof.Machine.execAdcbIx off s
  | .cmpbIx off => Sys2Proof.Machine.execCmpbIx off s
  | .jsrIx off => Sys2Proof.Machine.execJsrIx off s
  | .stabIx off => Sys2Proof.Machine.execStabIx off s
  | .stxIx off => Sys2Proof.Machine.execStxIx off s
  | .cpxIx off => Sys2Proof.Machine.execCpxIx off s
  | .ldxIx off => Sys2Proof.Machine.execLdxIx off s
  | .cpdIx off => Sys2Proof.Machine.execCpdIx off s
  | .lddIx off => Sys2Proof.Machine.execLddIx off s
  | .subbExt addr => Sys2Proof.Machine.execSubbExt addr s
  | .sbcbExt addr => Sys2Proof.Machine.execSbcbExt addr s
  | .addbExt addr => Sys2Proof.Machine.execAddbExt addr s
  | .andbExt addr => Sys2Proof.Machine.execAndbExt addr s
  | .ldabExt addr => Sys2Proof.Machine.execLdabExt addr s
  | .orabExt addr => Sys2Proof.Machine.execOrabExt addr s
  | .eorbExt addr => Sys2Proof.Machine.execEorbExt addr s
  | .adcbExt addr => Sys2Proof.Machine.execAdcbExt addr s
  | .cmpbExt addr => Sys2Proof.Machine.execCmpbExt addr s
  | .jsrExt addr => Sys2Proof.Machine.execJsrExt addr s
  | .stabExt addr => Sys2Proof.Machine.execStabExt addr s
  | .stxExt addr => Sys2Proof.Machine.execStxExt addr s
  | .cpxExt addr => Sys2Proof.Machine.execCpxExt addr s
  | .ldxExt addr => Sys2Proof.Machine.execLdxExt addr s
  | .cpdExt addr => Sys2Proof.Machine.execCpdExt addr s
  | .lddExt addr => Sys2Proof.Machine.execLddExt addr s

end Sys2Proof.Machine
end

