-- ==== Sys2Proof/WellFormed.lean ====
section
/-! DEFINITION. Which instructions the encoding can hold. Every value of every operand byte is legal (30_encoding.md R121),
so the one check is the offset byte of the IX+ form: it is present exactly if P_IXP_OFFSET (R110, R112). -/

namespace Sys2Proof

/-- The check of an IX+ form's offset byte (R110, R112). -/
def ixpWf (off : Option Byte) : Bool := off.isSome == params.ixpOffset

/-- Whether an instruction is one the encoding can hold. -/
def Instr.wf : Instr → Bool
  | .subaIxp off => ixpWf off
  | .sbcaIxp off => ixpWf off
  | .addaIxp off => ixpWf off
  | .andaIxp off => ixpWf off
  | .ldaaIxp off => ixpWf off
  | .oraaIxp off => ixpWf off
  | .eoraIxp off => ixpWf off
  | .adcaIxp off => ixpWf off
  | .cmpaIxp off => ixpWf off
  | .bitaIxp off => ixpWf off
  | .staaIxp off => ixpWf off
  | .subdIxp off => ixpWf off
  | .cpdIxp off => ixpWf off
  | .adddIxp off => ixpWf off
  | .nop => true
  | .stop => true
  | .dabnz _ => true
  | .dbbnz _ => true
  | .brn _ => true
  | .bra _ => true
  | .bil _ => true
  | .bih _ => true
  | .idiv => true
  | .mul => true
  | .clv => true
  | .sev => true
  | .clc => true
  | .sec => true
  | .cli => true
  | .sei => true
  | .bhcc _ => true
  | .bhcs _ => true
  | .bhi _ => true
  | .bls _ => true
  | .bcc _ => true
  | .bcs _ => true
  | .bne _ => true
  | .beq _ => true
  | .bvc _ => true
  | .bvs _ => true
  | .bpl _ => true
  | .bmi _ => true
  | .bge _ => true
  | .blt _ => true
  | .bgt _ => true
  | .ble _ => true
  | .tsx => true
  | .txs => true
  | .ins => true
  | .des => true
  | .inx => true
  | .dex => true
  | .pulx => true
  | .pshx => true
  | .pula => true
  | .pulb => true
  | .psha => true
  | .pshb => true
  | .rts => true
  | .rti => true
  | .wait => true
  | .swi => true
  | .nega => true
  | .clra => true
  | .inca => true
  | .deca => true
  | .lsra => true
  | .rora => true
  | .asra => true
  | .lsla => true
  | .rola => true
  | .tsta => true
  | .tdx => true
  | .tba => true
  | .sba => true
  | .aba => true
  | .negb => true
  | .clrb => true
  | .incb => true
  | .decb => true
  | .lsrb => true
  | .rorb => true
  | .asrb => true
  | .lslb => true
  | .rolb => true
  | .tstb => true
  | .tab => true
  | .cba => true
  | .negIx _ => true
  | .clrIx _ => true
  | .incIx _ => true
  | .decIx _ => true
  | .lsrIx _ => true
  | .rorIx _ => true
  | .asrIx _ => true
  | .lslIx _ => true
  | .rolIx _ => true
  | .tstIx _ => true
  | .brsetIx _ _ _ => true
  | .brclrIx _ _ _ => true
  | .bclrIx _ _ => true
  | .bsetIx _ _ => true
  | .movIx _ _ => true
  | .jmpIx _ => true
  | .negExt _ => true
  | .clrExt _ => true
  | .incExt _ => true
  | .decExt _ => true
  | .lsrExt _ => true
  | .rorExt _ => true
  | .asrExt _ => true
  | .lslExt _ => true
  | .rolExt _ => true
  | .tstExt _ => true
  | .brsetExt _ _ _ => true
  | .brclrExt _ _ _ => true
  | .bclrExt _ _ => true
  | .bsetExt _ _ => true
  | .movExt _ _ => true
  | .jmpExt _ => true
  | .subaImm _ => true
  | .sbcaImm _ => true
  | .addaImm _ => true
  | .andaImm _ => true
  | .ldaaImm _ => true
  | .oraaImm _ => true
  | .eoraImm _ => true
  | .adcaImm _ => true
  | .cmpaImm _ => true
  | .bitaImm _ => true
  | .ais _ => true
  | .ldsImm _ => true
  | .subdImm _ => true
  | .adddImm _ => true
  | .subaDir _ => true
  | .sbcaDir _ => true
  | .addaDir _ => true
  | .andaDir _ => true
  | .ldaaDir _ => true
  | .oraaDir _ => true
  | .eoraDir _ => true
  | .adcaDir _ => true
  | .cmpaDir _ => true
  | .bitaDir _ => true
  | .staaDir _ => true
  | .stsDir _ => true
  | .stdDir _ => true
  | .ldsDir _ => true
  | .subdDir _ => true
  | .adddDir _ => true
  | .subaIx _ => true
  | .sbcaIx _ => true
  | .addaIx _ => true
  | .andaIx _ => true
  | .ldaaIx _ => true
  | .oraaIx _ => true
  | .eoraIx _ => true
  | .adcaIx _ => true
  | .cmpaIx _ => true
  | .bitaIx _ => true
  | .staaIx _ => true
  | .stsIx _ => true
  | .stdIx _ => true
  | .ldsIx _ => true
  | .subdIx _ => true
  | .adddIx _ => true
  | .subaExt _ => true
  | .sbcaExt _ => true
  | .addaExt _ => true
  | .andaExt _ => true
  | .ldaaExt _ => true
  | .oraaExt _ => true
  | .eoraExt _ => true
  | .adcaExt _ => true
  | .cmpaExt _ => true
  | .bitaExt _ => true
  | .staaExt _ => true
  | .stsExt _ => true
  | .stdExt _ => true
  | .ldsExt _ => true
  | .subdExt _ => true
  | .adddExt _ => true
  | .subbImm _ => true
  | .sbcbImm _ => true
  | .addbImm _ => true
  | .andbImm _ => true
  | .ldabImm _ => true
  | .orabImm _ => true
  | .eorbImm _ => true
  | .adcbImm _ => true
  | .cmpbImm _ => true
  | .bsr _ => true
  | .aix _ => true
  | .cpxImm _ => true
  | .ldxImm _ => true
  | .cpdImm _ => true
  | .lddImm _ => true
  | .subbDir _ => true
  | .sbcbDir _ => true
  | .addbDir _ => true
  | .andbDir _ => true
  | .ldabDir _ => true
  | .orabDir _ => true
  | .eorbDir _ => true
  | .adcbDir _ => true
  | .cmpbDir _ => true
  | .jsrDir _ => true
  | .stabDir _ => true
  | .stxDir _ => true
  | .cpxDir _ => true
  | .ldxDir _ => true
  | .cpdDir _ => true
  | .lddDir _ => true
  | .subbIx _ => true
  | .sbcbIx _ => true
  | .addbIx _ => true
  | .andbIx _ => true
  | .ldabIx _ => true
  | .orabIx _ => true
  | .eorbIx _ => true
  | .adcbIx _ => true
  | .cmpbIx _ => true
  | .jsrIx _ => true
  | .stabIx _ => true
  | .stxIx _ => true
  | .cpxIx _ => true
  | .ldxIx _ => true
  | .cpdIx _ => true
  | .lddIx _ => true
  | .subbExt _ => true
  | .sbcbExt _ => true
  | .addbExt _ => true
  | .andbExt _ => true
  | .ldabExt _ => true
  | .orabExt _ => true
  | .eorbExt _ => true
  | .adcbExt _ => true
  | .cmpbExt _ => true
  | .jsrExt _ => true
  | .stabExt _ => true
  | .stxExt _ => true
  | .cpxExt _ => true
  | .ldxExt _ => true
  | .cpdExt _ => true
  | .lddExt _ => true

end Sys2Proof
end

