-- ==== Sys2Proof/Decode.lean ====
section
/-! DEFINITION. The decoder, total on any bytes and rejecting by name, and the encoder, both from the opcode map and the
operand layouts of 30_encoding.md R100 to R122. -/

namespace Sys2Proof

/-- What the decoder answers. -/
inductive DecodeResult where
  /-- An instruction and the bytes after it. -/
  | ok (i : Instr) (rest : List Byte)
  /-- One of the eleven empty opcodes (R120). -/
  | illegal (op : Byte)
  /-- The bytes end inside the instruction. -/
  | truncated
  deriving DecidableEq, Repr

/-! ## Operand layouts (R112) -/

/-- No operand byte: INH. -/
def decodeInh (i : Instr) (bs : List Byte) : DecodeResult := .ok i bs

/-- One operand byte: REL, IMM8, IMM8S, DIR, IX. -/
def decodeByte1 (f : Byte → Instr) : List Byte → DecodeResult
  | x :: rest => .ok (f x) rest
  | [] => .truncated

/-- Two operand bytes, the high one first: IMM16, EXT (R106, R108). -/
def decodeWord1 (f : Word → Instr) : List Byte → DecodeResult
  | h :: l :: rest => .ok (f (joinBytes h l)) rest
  | _ => .truncated

/-- IX+: an offset byte if P_IXP_OFFSET, else none (R110). -/
def decodeIxp1 (f : Option Byte → Instr) (bs : List Byte) : DecodeResult :=
  if params.ixpOffset then decodeByte1 (fun x => f (some x)) bs else decodeInh (f none) bs

/-- An offset byte and a mask or data byte: IX_M (R111). -/
def decodeByte2 (f : Byte → Byte → Instr) : List Byte → DecodeResult
  | x :: y :: rest => .ok (f x y) rest
  | _ => .truncated

/-- An address and a mask or data byte: EXT_M (R111). -/
def decodeWordByte (f : Word → Byte → Instr) : List Byte → DecodeResult
  | h :: l :: y :: rest => .ok (f (joinBytes h l) y) rest
  | _ => .truncated

/-- An offset byte, a mask and a relative byte: IX_M_REL (R111). -/
def decodeByte3 (f : Byte → Byte → Byte → Instr) : List Byte → DecodeResult
  | x :: y :: z :: rest => .ok (f x y z) rest
  | _ => .truncated

/-- An address, a mask and a relative byte: EXT_M_REL (R111). -/
def decodeWordByte2 (f : Word → Byte → Byte → Instr) : List Byte → DecodeResult
  | h :: l :: y :: z :: rest => .ok (f (joinBytes h l) y z) rest
  | _ => .truncated

/-! ## The map, column by column (R100); the row is the low nibble -/

/-- Column 0 of the opcode map (R100, R112). -/
def decodeCol0 (op : Byte) (row : Nat) (bs : List Byte) : DecodeResult :=
  match row with
  | 0 => decodeInh .nop bs
  | 1 => decodeInh .stop bs
  | 2 => decodeByte1 .dabnz bs
  | 3 => decodeByte1 .dbbnz bs
  | 4 => decodeByte1 .brn bs
  | 5 => decodeByte1 .bra bs
  | 6 => decodeByte1 .bil bs
  | 7 => decodeByte1 .bih bs
  | 8 => decodeInh .idiv bs
  | 9 => decodeInh .mul bs
  | 10 => decodeInh .clv bs
  | 11 => decodeInh .sev bs
  | 12 => decodeInh .clc bs
  | 13 => decodeInh .sec bs
  | 14 => decodeInh .cli bs
  | 15 => decodeInh .sei bs
  | _ => .illegal op

/-- Column 1 of the opcode map (R100, R112). -/
def decodeCol1 (op : Byte) (row : Nat) (bs : List Byte) : DecodeResult :=
  match row with
  | 0 => decodeByte1 .bhcc bs
  | 1 => decodeByte1 .bhcs bs
  | 2 => decodeByte1 .bhi bs
  | 3 => decodeByte1 .bls bs
  | 4 => decodeByte1 .bcc bs
  | 5 => decodeByte1 .bcs bs
  | 6 => decodeByte1 .bne bs
  | 7 => decodeByte1 .beq bs
  | 8 => decodeByte1 .bvc bs
  | 9 => decodeByte1 .bvs bs
  | 10 => decodeByte1 .bpl bs
  | 11 => decodeByte1 .bmi bs
  | 12 => decodeByte1 .bge bs
  | 13 => decodeByte1 .blt bs
  | 14 => decodeByte1 .bgt bs
  | 15 => decodeByte1 .ble bs
  | _ => .illegal op

/-- Column 2 of the opcode map (R100, R112). -/
def decodeCol2 (op : Byte) (row : Nat) (bs : List Byte) : DecodeResult :=
  match row with
  | 0 => decodeInh .tsx bs
  | 1 => decodeInh .txs bs
  | 2 => decodeInh .ins bs
  | 3 => decodeInh .des bs
  | 4 => decodeInh .inx bs
  | 5 => decodeInh .dex bs
  | 6 => decodeInh .pulx bs
  | 7 => decodeInh .pshx bs
  | 8 => decodeInh .pula bs
  | 9 => decodeInh .pulb bs
  | 10 => decodeInh .psha bs
  | 11 => decodeInh .pshb bs
  | 12 => decodeInh .rts bs
  | 13 => decodeInh .rti bs
  | 14 => decodeInh .wait bs
  | 15 => decodeInh .swi bs
  | _ => .illegal op

/-- Column 3 of the opcode map (R100, R112). -/
def decodeCol3 (op : Byte) (row : Nat) (bs : List Byte) : DecodeResult :=
  match row with
  | 0 => decodeInh .nega bs
  | 1 => decodeInh .clra bs
  | 2 => decodeInh .inca bs
  | 3 => decodeInh .deca bs
  | 4 => decodeInh .lsra bs
  | 5 => decodeInh .rora bs
  | 6 => decodeInh .asra bs
  | 7 => decodeInh .lsla bs
  | 8 => decodeInh .rola bs
  | 9 => decodeInh .tsta bs
  | 10 => decodeInh .tdx bs
  | 12 => decodeInh .tba bs
  | 14 => decodeInh .sba bs
  | 15 => decodeInh .aba bs
  | _ => .illegal op

/-- Column 4 of the opcode map (R100, R112). -/
def decodeCol4 (op : Byte) (row : Nat) (bs : List Byte) : DecodeResult :=
  match row with
  | 0 => decodeInh .negb bs
  | 1 => decodeInh .clrb bs
  | 2 => decodeInh .incb bs
  | 3 => decodeInh .decb bs
  | 4 => decodeInh .lsrb bs
  | 5 => decodeInh .rorb bs
  | 6 => decodeInh .asrb bs
  | 7 => decodeInh .lslb bs
  | 8 => decodeInh .rolb bs
  | 9 => decodeInh .tstb bs
  | 12 => decodeInh .tab bs
  | 14 => decodeInh .cba bs
  | _ => .illegal op

/-- Column 5 of the opcode map (R100, R112). -/
def decodeCol5 (op : Byte) (row : Nat) (bs : List Byte) : DecodeResult :=
  match row with
  | 0 => decodeByte1 .negIx bs
  | 1 => decodeByte1 .clrIx bs
  | 2 => decodeByte1 .incIx bs
  | 3 => decodeByte1 .decIx bs
  | 4 => decodeByte1 .lsrIx bs
  | 5 => decodeByte1 .rorIx bs
  | 6 => decodeByte1 .asrIx bs
  | 7 => decodeByte1 .lslIx bs
  | 8 => decodeByte1 .rolIx bs
  | 9 => decodeByte1 .tstIx bs
  | 10 => decodeByte3 .brsetIx bs
  | 11 => decodeByte3 .brclrIx bs
  | 12 => decodeByte2 .bclrIx bs
  | 13 => decodeByte2 .bsetIx bs
  | 14 => decodeByte2 .movIx bs
  | 15 => decodeByte1 .jmpIx bs
  | _ => .illegal op

/-- Column 6 of the opcode map (R100, R112). -/
def decodeCol6 (op : Byte) (row : Nat) (bs : List Byte) : DecodeResult :=
  match row with
  | 0 => decodeWord1 .negExt bs
  | 1 => decodeWord1 .clrExt bs
  | 2 => decodeWord1 .incExt bs
  | 3 => decodeWord1 .decExt bs
  | 4 => decodeWord1 .lsrExt bs
  | 5 => decodeWord1 .rorExt bs
  | 6 => decodeWord1 .asrExt bs
  | 7 => decodeWord1 .lslExt bs
  | 8 => decodeWord1 .rolExt bs
  | 9 => decodeWord1 .tstExt bs
  | 10 => decodeWordByte2 .brsetExt bs
  | 11 => decodeWordByte2 .brclrExt bs
  | 12 => decodeWordByte .bclrExt bs
  | 13 => decodeWordByte .bsetExt bs
  | 14 => decodeWordByte .movExt bs
  | 15 => decodeWord1 .jmpExt bs
  | _ => .illegal op

/-- Column 7 of the opcode map (R100, R112). -/
def decodeCol7 (op : Byte) (row : Nat) (bs : List Byte) : DecodeResult :=
  match row with
  | 0 => decodeIxp1 .subaIxp bs
  | 1 => decodeIxp1 .sbcaIxp bs
  | 2 => decodeIxp1 .addaIxp bs
  | 3 => decodeIxp1 .andaIxp bs
  | 4 => decodeIxp1 .ldaaIxp bs
  | 5 => decodeIxp1 .oraaIxp bs
  | 6 => decodeIxp1 .eoraIxp bs
  | 7 => decodeIxp1 .adcaIxp bs
  | 8 => decodeIxp1 .cmpaIxp bs
  | 9 => decodeIxp1 .bitaIxp bs
  | 10 => decodeIxp1 .staaIxp bs
  | 13 => decodeIxp1 (if params.c1Alt then .cpdIxp else .subdIxp) bs
  | 14 => decodeIxp1 (if params.c1Alt then .subdIxp else .cpdIxp) bs
  | 15 => decodeIxp1 .adddIxp bs
  | _ => .illegal op

/-- Column 8 of the opcode map (R100, R112). -/
def decodeCol8 (op : Byte) (row : Nat) (bs : List Byte) : DecodeResult :=
  match row with
  | 0 => decodeByte1 .subaImm bs
  | 1 => decodeByte1 .sbcaImm bs
  | 2 => decodeByte1 .addaImm bs
  | 3 => decodeByte1 .andaImm bs
  | 4 => decodeByte1 .ldaaImm bs
  | 5 => decodeByte1 .oraaImm bs
  | 6 => decodeByte1 .eoraImm bs
  | 7 => decodeByte1 .adcaImm bs
  | 8 => decodeByte1 .cmpaImm bs
  | 9 => decodeByte1 .bitaImm bs
  | 11 => decodeByte1 .ais bs
  | 13 => decodeWord1 .ldsImm bs
  | 14 => decodeWord1 .subdImm bs
  | 15 => decodeWord1 .adddImm bs
  | _ => .illegal op

/-- Column 9 of the opcode map (R100, R112). -/
def decodeCol9 (op : Byte) (row : Nat) (bs : List Byte) : DecodeResult :=
  match row with
  | 0 => decodeByte1 .subaDir bs
  | 1 => decodeByte1 .sbcaDir bs
  | 2 => decodeByte1 .addaDir bs
  | 3 => decodeByte1 .andaDir bs
  | 4 => decodeByte1 .ldaaDir bs
  | 5 => decodeByte1 .oraaDir bs
  | 6 => decodeByte1 .eoraDir bs
  | 7 => decodeByte1 .adcaDir bs
  | 8 => decodeByte1 .cmpaDir bs
  | 9 => decodeByte1 .bitaDir bs
  | 10 => decodeByte1 .staaDir bs
  | 11 => decodeByte1 .stsDir bs
  | 12 => decodeByte1 .stdDir bs
  | 13 => decodeByte1 .ldsDir bs
  | 14 => decodeByte1 .subdDir bs
  | 15 => decodeByte1 .adddDir bs
  | _ => .illegal op

/-- Column A of the opcode map (R100, R112). -/
def decodeColA (op : Byte) (row : Nat) (bs : List Byte) : DecodeResult :=
  match row with
  | 0 => decodeByte1 .subaIx bs
  | 1 => decodeByte1 .sbcaIx bs
  | 2 => decodeByte1 .addaIx bs
  | 3 => decodeByte1 .andaIx bs
  | 4 => decodeByte1 .ldaaIx bs
  | 5 => decodeByte1 .oraaIx bs
  | 6 => decodeByte1 .eoraIx bs
  | 7 => decodeByte1 .adcaIx bs
  | 8 => decodeByte1 .cmpaIx bs
  | 9 => decodeByte1 .bitaIx bs
  | 10 => decodeByte1 .staaIx bs
  | 11 => decodeByte1 .stsIx bs
  | 12 => decodeByte1 .stdIx bs
  | 13 => decodeByte1 .ldsIx bs
  | 14 => decodeByte1 .subdIx bs
  | 15 => decodeByte1 .adddIx bs
  | _ => .illegal op

/-- Column B of the opcode map (R100, R112). -/
def decodeColB (op : Byte) (row : Nat) (bs : List Byte) : DecodeResult :=
  match row with
  | 0 => decodeWord1 .subaExt bs
  | 1 => decodeWord1 .sbcaExt bs
  | 2 => decodeWord1 .addaExt bs
  | 3 => decodeWord1 .andaExt bs
  | 4 => decodeWord1 .ldaaExt bs
  | 5 => decodeWord1 .oraaExt bs
  | 6 => decodeWord1 .eoraExt bs
  | 7 => decodeWord1 .adcaExt bs
  | 8 => decodeWord1 .cmpaExt bs
  | 9 => decodeWord1 .bitaExt bs
  | 10 => decodeWord1 .staaExt bs
  | 11 => decodeWord1 .stsExt bs
  | 12 => decodeWord1 .stdExt bs
  | 13 => decodeWord1 .ldsExt bs
  | 14 => decodeWord1 .subdExt bs
  | 15 => decodeWord1 .adddExt bs
  | _ => .illegal op

/-- Column C of the opcode map (R100, R112). -/
def decodeColC (op : Byte) (row : Nat) (bs : List Byte) : DecodeResult :=
  match row with
  | 0 => decodeByte1 .subbImm bs
  | 1 => decodeByte1 .sbcbImm bs
  | 2 => decodeByte1 .addbImm bs
  | 3 => decodeByte1 .andbImm bs
  | 4 => decodeByte1 .ldabImm bs
  | 5 => decodeByte1 .orabImm bs
  | 6 => decodeByte1 .eorbImm bs
  | 7 => decodeByte1 .adcbImm bs
  | 8 => decodeByte1 .cmpbImm bs
  | 9 => decodeByte1 .bsr bs
  | 11 => decodeByte1 .aix bs
  | 12 => decodeWord1 .cpxImm bs
  | 13 => decodeWord1 .ldxImm bs
  | 14 => decodeWord1 .cpdImm bs
  | 15 => decodeWord1 .lddImm bs
  | _ => .illegal op

/-- Column D of the opcode map (R100, R112). -/
def decodeColD (op : Byte) (row : Nat) (bs : List Byte) : DecodeResult :=
  match row with
  | 0 => decodeByte1 .subbDir bs
  | 1 => decodeByte1 .sbcbDir bs
  | 2 => decodeByte1 .addbDir bs
  | 3 => decodeByte1 .andbDir bs
  | 4 => decodeByte1 .ldabDir bs
  | 5 => decodeByte1 .orabDir bs
  | 6 => decodeByte1 .eorbDir bs
  | 7 => decodeByte1 .adcbDir bs
  | 8 => decodeByte1 .cmpbDir bs
  | 9 => decodeByte1 .jsrDir bs
  | 10 => decodeByte1 .stabDir bs
  | 11 => decodeByte1 .stxDir bs
  | 12 => decodeByte1 .cpxDir bs
  | 13 => decodeByte1 .ldxDir bs
  | 14 => decodeByte1 .cpdDir bs
  | 15 => decodeByte1 .lddDir bs
  | _ => .illegal op

/-- Column E of the opcode map (R100, R112). -/
def decodeColE (op : Byte) (row : Nat) (bs : List Byte) : DecodeResult :=
  match row with
  | 0 => decodeByte1 .subbIx bs
  | 1 => decodeByte1 .sbcbIx bs
  | 2 => decodeByte1 .addbIx bs
  | 3 => decodeByte1 .andbIx bs
  | 4 => decodeByte1 .ldabIx bs
  | 5 => decodeByte1 .orabIx bs
  | 6 => decodeByte1 .eorbIx bs
  | 7 => decodeByte1 .adcbIx bs
  | 8 => decodeByte1 .cmpbIx bs
  | 9 => decodeByte1 .jsrIx bs
  | 10 => decodeByte1 .stabIx bs
  | 11 => decodeByte1 .stxIx bs
  | 12 => decodeByte1 .cpxIx bs
  | 13 => decodeByte1 .ldxIx bs
  | 14 => decodeByte1 .cpdIx bs
  | 15 => decodeByte1 .lddIx bs
  | _ => .illegal op

/-- Column F of the opcode map (R100, R112). -/
def decodeColF (op : Byte) (row : Nat) (bs : List Byte) : DecodeResult :=
  match row with
  | 0 => decodeWord1 .subbExt bs
  | 1 => decodeWord1 .sbcbExt bs
  | 2 => decodeWord1 .addbExt bs
  | 3 => decodeWord1 .andbExt bs
  | 4 => decodeWord1 .ldabExt bs
  | 5 => decodeWord1 .orabExt bs
  | 6 => decodeWord1 .eorbExt bs
  | 7 => decodeWord1 .adcbExt bs
  | 8 => decodeWord1 .cmpbExt bs
  | 9 => decodeWord1 .jsrExt bs
  | 10 => decodeWord1 .stabExt bs
  | 11 => decodeWord1 .stxExt bs
  | 12 => decodeWord1 .cpxExt bs
  | 13 => decodeWord1 .ldxExt bs
  | 14 => decodeWord1 .cpdExt bs
  | 15 => decodeWord1 .lddExt bs
  | _ => .illegal op

/-- Decode an opcode byte and the bytes after it: the column is the high nibble, the row the low one (R100, R114). -/
def decodeOp (op : Byte) (bs : List Byte) : DecodeResult :=
  let row := op.toNat % 16
  match op.toNat / 16 with
  | 0 => decodeCol0 op row bs
  | 1 => decodeCol1 op row bs
  | 2 => decodeCol2 op row bs
  | 3 => decodeCol3 op row bs
  | 4 => decodeCol4 op row bs
  | 5 => decodeCol5 op row bs
  | 6 => decodeCol6 op row bs
  | 7 => decodeCol7 op row bs
  | 8 => decodeCol8 op row bs
  | 9 => decodeCol9 op row bs
  | 10 => decodeColA op row bs
  | 11 => decodeColB op row bs
  | 12 => decodeColC op row bs
  | 13 => decodeColD op row bs
  | 14 => decodeColE op row bs
  | _ => decodeColF op row bs

/-- The decoder: the instruction at the head of a list of bytes. -/
def decode : List Byte → DecodeResult
  | [] => .truncated
  | op :: bs => decodeOp op bs

/-! ## The length of an instruction, from its opcode alone (R112, R122) -/

/-- How many operand bytes follow an opcode byte (R112); none for the eleven empty opcodes (R120). -/
def operandBytes (op : Byte) : Option Nat :=
  let row := op.toNat % 16
  match op.toNat / 16 with
  | 0 => some (if 2 ≤ row ∧ row ≤ 7 then 1 else 0)
  | 1 => some 1
  | 2 => some 0
  | 3 => if row = 0xB ∨ row = 0xD then none else some 0
  | 4 => if row = 0xA ∨ row = 0xB ∨ row = 0xD ∨ row = 0xF then none else some 0
  | 5 => some (if row = 0xA ∨ row = 0xB then 3 else if row = 0xC ∨ row = 0xD ∨ row = 0xE then 2 else 1)
  | 6 => some (if row = 0xA ∨ row = 0xB then 4 else if row = 0xC ∨ row = 0xD ∨ row = 0xE then 3 else 2)
  | 7 => if row = 0xB ∨ row = 0xC then none else some (if params.ixpOffset then 1 else 0)
  | 8 => if row = 0xA ∨ row = 0xC then none else some (if row = 0xD ∨ row = 0xE ∨ row = 0xF then 2 else 1)
  | 9 => some 1
  | 0xA => some 1
  | 0xB => some 2
  | 0xC => if row = 0xA then none else some (if 0xC ≤ row then 2 else 1)
  | 0xD => some 1
  | 0xE => some 1
  | _ => some 2

/-! ## The encoder -/

/-- The bytes of an IX+ form's offset, where it carries one (R110). -/
def encodeIxp (off : Option Byte) : List Byte :=
  match off with
  | none => []
  | some x => [x]

/-- The bytes of an instruction (R100, R112): opcode, address bytes, mask or data byte, relative byte. -/
def encode : Instr → List Byte
  | .nop => [0x00]
  | .stop => [0x01]
  | .dabnz rel => [0x02, rel]
  | .dbbnz rel => [0x03, rel]
  | .brn rel => [0x04, rel]
  | .bra rel => [0x05, rel]
  | .bil rel => [0x06, rel]
  | .bih rel => [0x07, rel]
  | .idiv => [0x08]
  | .mul => [0x09]
  | .clv => [0x0A]
  | .sev => [0x0B]
  | .clc => [0x0C]
  | .sec => [0x0D]
  | .cli => [0x0E]
  | .sei => [0x0F]
  | .bhcc rel => [0x10, rel]
  | .bhcs rel => [0x11, rel]
  | .bhi rel => [0x12, rel]
  | .bls rel => [0x13, rel]
  | .bcc rel => [0x14, rel]
  | .bcs rel => [0x15, rel]
  | .bne rel => [0x16, rel]
  | .beq rel => [0x17, rel]
  | .bvc rel => [0x18, rel]
  | .bvs rel => [0x19, rel]
  | .bpl rel => [0x1A, rel]
  | .bmi rel => [0x1B, rel]
  | .bge rel => [0x1C, rel]
  | .blt rel => [0x1D, rel]
  | .bgt rel => [0x1E, rel]
  | .ble rel => [0x1F, rel]
  | .tsx => [0x20]
  | .txs => [0x21]
  | .ins => [0x22]
  | .des => [0x23]
  | .inx => [0x24]
  | .dex => [0x25]
  | .pulx => [0x26]
  | .pshx => [0x27]
  | .pula => [0x28]
  | .pulb => [0x29]
  | .psha => [0x2A]
  | .pshb => [0x2B]
  | .rts => [0x2C]
  | .rti => [0x2D]
  | .wait => [0x2E]
  | .swi => [0x2F]
  | .nega => [0x30]
  | .clra => [0x31]
  | .inca => [0x32]
  | .deca => [0x33]
  | .lsra => [0x34]
  | .rora => [0x35]
  | .asra => [0x36]
  | .lsla => [0x37]
  | .rola => [0x38]
  | .tsta => [0x39]
  | .tdx => [0x3A]
  | .tba => [0x3C]
  | .sba => [0x3E]
  | .aba => [0x3F]
  | .negb => [0x40]
  | .clrb => [0x41]
  | .incb => [0x42]
  | .decb => [0x43]
  | .lsrb => [0x44]
  | .rorb => [0x45]
  | .asrb => [0x46]
  | .lslb => [0x47]
  | .rolb => [0x48]
  | .tstb => [0x49]
  | .tab => [0x4C]
  | .cba => [0x4E]
  | .negIx off => [0x50, off]
  | .clrIx off => [0x51, off]
  | .incIx off => [0x52, off]
  | .decIx off => [0x53, off]
  | .lsrIx off => [0x54, off]
  | .rorIx off => [0x55, off]
  | .asrIx off => [0x56, off]
  | .lslIx off => [0x57, off]
  | .rolIx off => [0x58, off]
  | .tstIx off => [0x59, off]
  | .brsetIx off m rel => [0x5A, off, m, rel]
  | .brclrIx off m rel => [0x5B, off, m, rel]
  | .bclrIx off m => [0x5C, off, m]
  | .bsetIx off m => [0x5D, off, m]
  | .movIx off m => [0x5E, off, m]
  | .jmpIx off => [0x5F, off]
  | .negExt addr => [0x60, hiByte addr, loByte addr]
  | .clrExt addr => [0x61, hiByte addr, loByte addr]
  | .incExt addr => [0x62, hiByte addr, loByte addr]
  | .decExt addr => [0x63, hiByte addr, loByte addr]
  | .lsrExt addr => [0x64, hiByte addr, loByte addr]
  | .rorExt addr => [0x65, hiByte addr, loByte addr]
  | .asrExt addr => [0x66, hiByte addr, loByte addr]
  | .lslExt addr => [0x67, hiByte addr, loByte addr]
  | .rolExt addr => [0x68, hiByte addr, loByte addr]
  | .tstExt addr => [0x69, hiByte addr, loByte addr]
  | .brsetExt addr m rel => [0x6A, hiByte addr, loByte addr, m, rel]
  | .brclrExt addr m rel => [0x6B, hiByte addr, loByte addr, m, rel]
  | .bclrExt addr m => [0x6C, hiByte addr, loByte addr, m]
  | .bsetExt addr m => [0x6D, hiByte addr, loByte addr, m]
  | .movExt addr m => [0x6E, hiByte addr, loByte addr, m]
  | .jmpExt addr => [0x6F, hiByte addr, loByte addr]
  | .subaIxp off => 0x70 :: encodeIxp off
  | .sbcaIxp off => 0x71 :: encodeIxp off
  | .addaIxp off => 0x72 :: encodeIxp off
  | .andaIxp off => 0x73 :: encodeIxp off
  | .ldaaIxp off => 0x74 :: encodeIxp off
  | .oraaIxp off => 0x75 :: encodeIxp off
  | .eoraIxp off => 0x76 :: encodeIxp off
  | .adcaIxp off => 0x77 :: encodeIxp off
  | .cmpaIxp off => 0x78 :: encodeIxp off
  | .bitaIxp off => 0x79 :: encodeIxp off
  | .staaIxp off => 0x7A :: encodeIxp off
  | .subdIxp off => (if params.c1Alt then 0x7E else 0x7D) :: encodeIxp off
  | .cpdIxp off => (if params.c1Alt then 0x7D else 0x7E) :: encodeIxp off
  | .adddIxp off => 0x7F :: encodeIxp off
  | .subaImm v => [0x80, v]
  | .sbcaImm v => [0x81, v]
  | .addaImm v => [0x82, v]
  | .andaImm v => [0x83, v]
  | .ldaaImm v => [0x84, v]
  | .oraaImm v => [0x85, v]
  | .eoraImm v => [0x86, v]
  | .adcaImm v => [0x87, v]
  | .cmpaImm v => [0x88, v]
  | .bitaImm v => [0x89, v]
  | .ais imm => [0x8B, imm]
  | .ldsImm w => [0x8D, hiByte w, loByte w]
  | .subdImm w => [0x8E, hiByte w, loByte w]
  | .adddImm w => [0x8F, hiByte w, loByte w]
  | .subaDir addr => [0x90, addr]
  | .sbcaDir addr => [0x91, addr]
  | .addaDir addr => [0x92, addr]
  | .andaDir addr => [0x93, addr]
  | .ldaaDir addr => [0x94, addr]
  | .oraaDir addr => [0x95, addr]
  | .eoraDir addr => [0x96, addr]
  | .adcaDir addr => [0x97, addr]
  | .cmpaDir addr => [0x98, addr]
  | .bitaDir addr => [0x99, addr]
  | .staaDir addr => [0x9A, addr]
  | .stsDir addr => [0x9B, addr]
  | .stdDir addr => [0x9C, addr]
  | .ldsDir addr => [0x9D, addr]
  | .subdDir addr => [0x9E, addr]
  | .adddDir addr => [0x9F, addr]
  | .subaIx off => [0xA0, off]
  | .sbcaIx off => [0xA1, off]
  | .addaIx off => [0xA2, off]
  | .andaIx off => [0xA3, off]
  | .ldaaIx off => [0xA4, off]
  | .oraaIx off => [0xA5, off]
  | .eoraIx off => [0xA6, off]
  | .adcaIx off => [0xA7, off]
  | .cmpaIx off => [0xA8, off]
  | .bitaIx off => [0xA9, off]
  | .staaIx off => [0xAA, off]
  | .stsIx off => [0xAB, off]
  | .stdIx off => [0xAC, off]
  | .ldsIx off => [0xAD, off]
  | .subdIx off => [0xAE, off]
  | .adddIx off => [0xAF, off]
  | .subaExt addr => [0xB0, hiByte addr, loByte addr]
  | .sbcaExt addr => [0xB1, hiByte addr, loByte addr]
  | .addaExt addr => [0xB2, hiByte addr, loByte addr]
  | .andaExt addr => [0xB3, hiByte addr, loByte addr]
  | .ldaaExt addr => [0xB4, hiByte addr, loByte addr]
  | .oraaExt addr => [0xB5, hiByte addr, loByte addr]
  | .eoraExt addr => [0xB6, hiByte addr, loByte addr]
  | .adcaExt addr => [0xB7, hiByte addr, loByte addr]
  | .cmpaExt addr => [0xB8, hiByte addr, loByte addr]
  | .bitaExt addr => [0xB9, hiByte addr, loByte addr]
  | .staaExt addr => [0xBA, hiByte addr, loByte addr]
  | .stsExt addr => [0xBB, hiByte addr, loByte addr]
  | .stdExt addr => [0xBC, hiByte addr, loByte addr]
  | .ldsExt addr => [0xBD, hiByte addr, loByte addr]
  | .subdExt addr => [0xBE, hiByte addr, loByte addr]
  | .adddExt addr => [0xBF, hiByte addr, loByte addr]
  | .subbImm v => [0xC0, v]
  | .sbcbImm v => [0xC1, v]
  | .addbImm v => [0xC2, v]
  | .andbImm v => [0xC3, v]
  | .ldabImm v => [0xC4, v]
  | .orabImm v => [0xC5, v]
  | .eorbImm v => [0xC6, v]
  | .adcbImm v => [0xC7, v]
  | .cmpbImm v => [0xC8, v]
  | .bsr rel => [0xC9, rel]
  | .aix imm => [0xCB, imm]
  | .cpxImm w => [0xCC, hiByte w, loByte w]
  | .ldxImm w => [0xCD, hiByte w, loByte w]
  | .cpdImm w => [0xCE, hiByte w, loByte w]
  | .lddImm w => [0xCF, hiByte w, loByte w]
  | .subbDir addr => [0xD0, addr]
  | .sbcbDir addr => [0xD1, addr]
  | .addbDir addr => [0xD2, addr]
  | .andbDir addr => [0xD3, addr]
  | .ldabDir addr => [0xD4, addr]
  | .orabDir addr => [0xD5, addr]
  | .eorbDir addr => [0xD6, addr]
  | .adcbDir addr => [0xD7, addr]
  | .cmpbDir addr => [0xD8, addr]
  | .jsrDir addr => [0xD9, addr]
  | .stabDir addr => [0xDA, addr]
  | .stxDir addr => [0xDB, addr]
  | .cpxDir addr => [0xDC, addr]
  | .ldxDir addr => [0xDD, addr]
  | .cpdDir addr => [0xDE, addr]
  | .lddDir addr => [0xDF, addr]
  | .subbIx off => [0xE0, off]
  | .sbcbIx off => [0xE1, off]
  | .addbIx off => [0xE2, off]
  | .andbIx off => [0xE3, off]
  | .ldabIx off => [0xE4, off]
  | .orabIx off => [0xE5, off]
  | .eorbIx off => [0xE6, off]
  | .adcbIx off => [0xE7, off]
  | .cmpbIx off => [0xE8, off]
  | .jsrIx off => [0xE9, off]
  | .stabIx off => [0xEA, off]
  | .stxIx off => [0xEB, off]
  | .cpxIx off => [0xEC, off]
  | .ldxIx off => [0xED, off]
  | .cpdIx off => [0xEE, off]
  | .lddIx off => [0xEF, off]
  | .subbExt addr => [0xF0, hiByte addr, loByte addr]
  | .sbcbExt addr => [0xF1, hiByte addr, loByte addr]
  | .addbExt addr => [0xF2, hiByte addr, loByte addr]
  | .andbExt addr => [0xF3, hiByte addr, loByte addr]
  | .ldabExt addr => [0xF4, hiByte addr, loByte addr]
  | .orabExt addr => [0xF5, hiByte addr, loByte addr]
  | .eorbExt addr => [0xF6, hiByte addr, loByte addr]
  | .adcbExt addr => [0xF7, hiByte addr, loByte addr]
  | .cmpbExt addr => [0xF8, hiByte addr, loByte addr]
  | .jsrExt addr => [0xF9, hiByte addr, loByte addr]
  | .stabExt addr => [0xFA, hiByte addr, loByte addr]
  | .stxExt addr => [0xFB, hiByte addr, loByte addr]
  | .cpxExt addr => [0xFC, hiByte addr, loByte addr]
  | .ldxExt addr => [0xFD, hiByte addr, loByte addr]
  | .cpdExt addr => [0xFE, hiByte addr, loByte addr]
  | .lddExt addr => [0xFF, hiByte addr, loByte addr]

/-- Byte k of a number, its bits above n bytes being 0. -/
def tableByte (n w k : Nat) : Byte := if k < n then BitVec.ofNat 8 (w / 2 ^ (8 * k)) else 0

/-- The five bytes, opcode first, of an instruction given as a number: bit 0 is the least significant bit of the first
byte, and every bit above `nbits` is 0. Five bytes are the longest instruction (R122). -/
def tableBytes (nbits w : Nat) : List Byte :=
  [tableByte (nbits / 8) w 0, tableByte (nbits / 8) w 1, tableByte (nbits / 8) w 2, tableByte (nbits / 8) w 3,
    tableByte (nbits / 8) w 4]

/-- The instruction the decoder reads from a number laid out as spec/opcode_table.json numbers its bits. -/
def decodeTableWord (nbits w : Nat) : Option Instr :=
  match decode (tableBytes nbits w) with
  | .ok i _ => some i
  | .illegal _ => none
  | .truncated => none

end Sys2Proof
end

