-- ==== Sys2Proof/Machine/Fetch.lean ====
section
/-! DEFINITION. Fetching and decoding an instruction (00_scope.md R11; 30_encoding.md R114; 60_exceptions.md R373), with the
lookahead hazard (20_memory.md R84). -/

namespace Sys2Proof.Machine

/-- `Fetch8()` (R11): only RAM can be fetched from (R74, R75). -/
def fetch8 (s : State) : Res (Byte × State) :=
  if params.isRam s.pc then .next (s.ram s.pc, s.setPc (s.pc + 1)) else .fault (.invalidAccess s.pc)

/-- The next n instruction bytes, in ascending order (R65). -/
def fetchBytes : Nat → State → Res (List Byte × State)
  | 0, s => .next ([], s)
  | n + 1, s =>
    andThen (fetch8 s) fun x =>
    andThen (fetchBytes n x.2) fun rest =>
    .next (x.1 :: rest.1, rest.2)

/-- What the state holds once the instruction is fetched: its opcode in both opcode registers (R45, R413), and nothing left
over from the instruction before (R84, R353). -/
def State.fetched (s : State) (op : Byte) : State :=
  { s with opcode := op, ccrOpcode := op, stores := [], irqLag := false }

/-- Steps (2) to (4) of R373: the opcode byte, which the instruction before must not have stored to (R84); its decoding;
its operand bytes. `pc` ends at the address of the next instruction (R25). -/
def fetchInstr (s : State) : Res (Instr × State) :=
  if s.stores.contains s.pc then .fault (.opcodeOverwritten s.pc)
  else
    andThen (fetch8 s) fun x =>
    match operandBytes x.1 with
    | none => .fault (.illegalOpcode x.1)
    | some n =>
      andThen (fetchBytes n x.2) fun bs =>
      match decode (x.1 :: bs.1) with
      | .ok i _ => .next (i, bs.2.fetched x.1)
      | .illegal op => .fault (.illegalOpcode op)
      | .truncated => .fault (.illegalOpcode x.1)

/-- Store a list of bytes from an address on (addresses modulo 2^16). -/
def Memory.load : Memory → Word → List Byte → Memory
  | m, _, [] => m
  | m, a, x :: rest => Memory.load (m.set a.toNat x) (a + 1) rest

/-- The devices with no request pending. -/
def Devices.quiet (d : Devices) : Devices :=
  { d with pendExt1 := false, pendExt2 := false, pendT1 := false, pendT2 := false }

/-- Place instruction bytes at PC, fetching, with no request pending or to come and no store noted (log 27). -/
def State.placeAtPc (s : State) (bs : List Byte) : State :=
  { s with mem := s.mem.load s.pc bs, dev := s.dev.quiet, run := .running, stores := [], env := [] }

end Sys2Proof.Machine
end

