-- ==== Sys2Proof/Machine/Interrupts.lean ====
section
/-! DEFINITION. The environment at an instruction boundary, and the recognition of hardware interrupts (60_exceptions.md
R344, R350 to R355). -/

namespace Sys2Proof.Machine

/-- A Reset bit of IRQCTL that goes on acting between its writes: never while P_IRQ_POLARITY has it self-clearing (R38). -/
def Devices.irqHeld (d : Devices) (k : Nat) : Bool := !params.irqPolarity.selfClearing && irqResets d.irqctl k

/-- A Timer Reset bit of TMRCTL that goes on acting between its writes, likewise (R38). -/
def Devices.timerHeld (d : Devices) (k : Nat) : Bool := !params.irqPolarity.selfClearing && timerResets d.tmrctl k

/-- What one tick does: the external requests set their flags, a timer's request sets its flag only while its enable bit
in TMRCTL enables it (R360), and the ports and counts present their new bytes (R361, R370). A request sets its pending flag
whether or not its source's enable bit in IRQCTL enables it. R352 leaves that unspecified: DESIGN CHOICE; log 29. -/
def Devices.tick (d : Devices) (e : EnvTick) : Devices :=
  { d with
    pendExt1 := (d.pendExt1 || e.reqExt1) && !d.irqHeld 2
    pendExt2 := (d.pendExt2 || e.reqExt2) && !d.irqHeld 3
    pendT1 := (d.pendT1 || (e.reqT1 && timerEnables d.tmrctl 3)) && !d.irqHeld 0
    pendT2 := (d.pendT2 || (e.reqT2 && timerEnables d.tmrctl 2)) && !d.irqHeld 1
    in1 := e.in1
    in2 := e.in2
    t1cntH := if d.timerHeld 1 then 0 else e.t1cntH
    t1cntL := if d.timerHeld 1 then 0 else e.t1cntL
    t2cntH := if d.timerHeld 0 then 0 else e.t2cntH
    t2cntL := if d.timerHeld 0 then 0 else e.t2cntL }

/-- A boundary: the next tick of the environment happens; with none to come nothing changes (R350; log 6). -/
def State.boundary (s : State) : State :=
  match s.env with
  | [] => s
  | e :: rest => { s with dev := s.dev.tick e, env := rest }

/-- The sources that are pending and enabled (R352; enable bits of R36). -/
def Devices.requests (d : Devices) : List Source :=
  (if d.pendExt1 && irqEnables d.irqctl 6 then [Source.ext1] else []) ++
  (if d.pendExt2 && irqEnables d.irqctl 7 then [Source.ext2] else []) ++
  (if d.pendT1 && irqEnables d.irqctl 4 then [Source.t1] else []) ++
  (if d.pendT2 && irqEnables d.irqctl 5 then [Source.t2] else [])

/-- The signal Interruption: I is 0 and some enabled source is pending (R352). -/
def State.interruption (s : State) : Bool := !s.ccr.i && !s.dev.requests.isEmpty

/-- The vector address of a source (R343). -/
def Source.vector : Source → Word
  | .ext1 => 0x7FF8
  | .ext2 => 0x7FFA
  | .t1 => 0x7FFC
  | .t2 => 0x7FFE

/-- The source the recognition unit selects: any one of those asking (P_IRQ_PRIORITY open, R354; log 8). -/
def State.selected (s : State) : Source :=
  match s.dev.requests with
  | [] => .ext1
  | [src] => src
  | first :: more => (first :: more).getD (Config.freeChoice s.draws % (first :: more).length) .ext1

/-- The opcode of SWI (R206, R340). -/
def swiOpcode : Byte := 0x2F

/-- What the state holds as a hardware interrupt is taken: SWI in the Opcode register in place of the opcode loaded ahead
(R340, R353, R402) and in the second one (R413), fetching resumed where WAIT had suspended it (R365), and nothing left over
from the instruction before. -/
def State.taken (s : State) : State :=
  { s with run := .running, opcode := swiOpcode, ccrOpcode := swiOpcode, stores := [], irqLag := false }

/-- Hardware interrupt entry (R353, R345): SWI replaces the opcode loaded ahead, and the entry sequence runs with the
selected source's vector and `pc` as the return address (R347), loading the routine's first opcode ahead (R402). -/
def enterInterrupt (s : State) : Res State :=
  andThen (trapEntry s.selected.vector (s.drew 1).taken) fun t => .next (t.lookahead s.mem)

/-- Whether the boundary's interrupt is put off by one instruction: only after CLI or RTI, and then a free choice
(R149, R353; log 9). -/
def State.putsOff (s : State) : Bool := s.irqLag && Config.freeBit s.draws

end Sys2Proof.Machine
end

