-- ==== Sys2Proof/Machine/Cycle.lean ====
section
/-! DEFINITION. One cycle: one whole instruction, one interrupt entry, or one boundary spent waiting
(70_reset_and_hazards.md R418; 60_exceptions.md R353, R365, R366, R373). -/

namespace Sys2Proof.Machine

/-- Fetch, decode and execute one instruction (R373, (2) to (6)), the next opcode loaded ahead meanwhile (R402). -/
def runInstr (s : State) : Host.Outcome State Fault Refusal :=
  andThen (fetchInstr s) fun p =>
  andThen (exec p.1 p.2) fun t =>
  .next (t.lookahead p.2.mem)

/-- The step while fetching, the boundary's tick having happened: a recognised interrupt is entered, unless it is put off
by one instruction; else one instruction runs (R353, R373). -/
def stepRunning (s : State) : Host.Outcome State Fault Refusal :=
  if s.interruption then
    if s.irqLag then
      if s.putsOff then runInstr (s.drew 1) else enterInterrupt (s.drew 1)
    else enterInterrupt s
  else runInstr s

/-- The step while waiting, the boundary's tick having happened (R365): the entry once an interrupt is recognised, else
nothing. -/
def stepWaiting (s : State) : Host.Outcome State Fault Refusal :=
  if s.interruption then enterInterrupt s else .next s

/-- One cycle of the machine (R353, R365, R366, R373). -/
def cycle (s : State) : Host.Outcome State Fault Refusal :=
  match s.run with
  | .running => stepRunning s.boundary
  | .waiting => stepWaiting s.boundary
  | .stopped => .fault .runEnded

end Sys2Proof.Machine
end

