-- ==== Sys2Proof/Machine/Step.lean ====
section
/-! DEFINITION. One step of the machine, and where the host places an instruction. -/

namespace Sys2Proof.Machine

/-- One step: one instruction, one interrupt entry, or one boundary spent waiting (R418). -/
def step (s : State) : Host.Outcome State Fault Refusal := cycle s

/-- The state with one instruction, given as a number laid out as spec/opcode_table.json numbers its bits, placed where the
next step fetches (log 27). -/
def State.withFetchWord (s : State) (nbits w : Nat) : State := s.placeAtPc (tableBytes nbits w)

end Sys2Proof.Machine
end

