-- ==== Sys2Proof/Safety.lean ====
section
/-! DEFINITION. The terms the statements use: which addresses can be read and written, what an access that completes gives,
the operand forms an instruction is stated in, what each instruction may change (10_state.md R32), the invariant of the
machine, and the state an interrupt entry leaves (60_exceptions.md R345, R346). -/

namespace Sys2Proof.Safety

open Sys2Proof.Machine

/-! ## Addresses -/

/-- RAM (R70; P_RAM at its default, log 23). -/
abbrev InRam (a : Word) : Prop := a.toNat < 0x8000

/-- RAM or an MM register: every address a read may name (R70, R73, R74). -/
abbrev Readable (a : Word) : Prop := a.toNat ≤ 0x800D

/-- RAM or an MM register whose write has an effect (R70, R73; the four input registers of R41 and D44 have none). -/
abbrev Writable (a : Word) : Prop := a.toNat ≤ 0x8007

/-- What a read of a byte gives, and the state after it (that of the machine's own access, where it completes). -/
def readOf (a : Word) (s : State) : Byte × State :=
  match read8 a s with
  | .next p => p
  | .fault _ => (0, s)
  | .refused _ => (0, s)

/-- What a read of a word gives: the byte at the lower address first, and high (R10, R64, R69). -/
def readOf16 (a : Word) (s : State) : Word × State :=
  let h := readOf a s
  let l := readOf (a + 1) h.2
  (joinBytes h.1 l.1, l.2)

/-- The state after a byte is written (that of the machine's own access, where it completes). -/
def wrote (a : Word) (v : Byte) (s : State) : State :=
  match write8 a v s with
  | .next t => t
  | .fault _ => s
  | .refused _ => s

/-- The state after several bytes are written, the first of the list first. -/
def writeCells : List (Word × Byte) → State → State
  | [], s => s
  | c :: rest, s => writeCells rest (wrote c.1 c.2 s)

/-- How a write stops at an address that takes none (R74, and R41 with D44). -/
def writeStop (a : Word) : Res State :=
  if a.toNat ≤ 0x800D then .refused (.inputRegisterWrite a) else .fault (.invalidAccess a)

/-! ## Flags -/

/-- V, N, Z and C from ADD_n or SUB_n (R14); H and I kept. -/
def arithCcr {w : Nat} (f : Ccr) (o : AluOut w) : Ccr := { f with c := o.c, v := o.v, n := o.n, z := o.z }

/-- V cleared, N and Z from the result (R14); H, I and C kept. -/
def logicCcr {w : Nat} (f : Ccr) (r : BitVec w) : Ccr := { f with v := false, n := r.msb, z := decide (r = 0) }

/-- N and Z from the result, V as given; H, I and C kept. -/
def incCcr (f : Ccr) (r : Byte) (v : Bool) : Ccr := { f with v := v, n := r.msb, z := decide (r = 0) }

/-- C the bit shifted out, N and Z from the result, V their exclusive or; H and I kept. -/
def shiftCcr (f : Ccr) (r : Byte) (out : Bool) : Ccr :=
  { f with c := out, n := r.msb, z := decide (r = 0), v := xor r.msb out }

/-! ## Operand forms -/

/-- A one-byte instruction whose effect needs no data access. -/
def Inherent (i : Instr) (op : Byte) (f : State → State) : Prop :=
  encode i = [op] ∧ ∀ s, exec i s = .next (f s)

/-- An instruction that reads one byte at `ea` and goes on as `f` says of that byte; an invalid `ea` faults. -/
def Loads8 (i : Instr) (ea : State → Word) (f : Byte → State → State) : Prop :=
  ∀ s,
    (Readable (ea s) → exec i s = .next (f (readOf (ea s) s).1 (readOf (ea s) s).2)) ∧
    (¬ Readable (ea s) → exec i s = .fault (.invalidAccess (ea s)))

/-- An instruction that reads the word at `ea` and goes on as `f` says of it; `h` is a flag the spec leaves open. The first
invalid byte address faults. -/
def Loads16 (i : Instr) (ea : State → Word) (f : Bool → Word → State → State) : Prop :=
  ∀ s,
    (Readable (ea s) ∧ Readable (ea s + 1) →
      ∃ h, exec i s = .next (f h (readOf16 (ea s) s).1 (readOf16 (ea s) s).2)) ∧
    (¬ Readable (ea s) → exec i s = .fault (.invalidAccess (ea s))) ∧
    (Readable (ea s) ∧ ¬ Readable (ea s + 1) → exec i s = .fault (.invalidAccess (ea s + 1)))

/-- An instruction that writes the bytes `cells`, in their order, and then changes registers as `f` says; the first
address that takes no write stops it. -/
def Stores (i : Instr) (cells : State → List (Word × Byte)) (f : State → State) : Prop :=
  ∀ s,
    ((∀ c ∈ cells s, Writable c.1) → exec i s = .next (f (writeCells (cells s) s))) ∧
    (∀ c, (cells s).find? (fun d => !decide (Writable d.1)) = some c → exec i s = writeStop c.1)

/-- An instruction that reads the byte at `ea`, writes it back changed by `f`, and sets the flags `f` says. An invalid `ea`
faults on the read; an input register stops on the write. -/
def Modifies8 (i : Instr) (ea : State → Word) (f : Byte → Ccr → Byte × Ccr) : Prop :=
  ∀ s,
    (Writable (ea s) →
      exec i s = .next { wrote (ea s) (f (readOf (ea s) s).1 s.ccr).1 (readOf (ea s) s).2 with
        ccr := (f (readOf (ea s) s).1 s.ccr).2 }) ∧
    (Readable (ea s) ∧ ¬ Writable (ea s) → exec i s = .refused (.inputRegisterWrite (ea s))) ∧
    (¬ Readable (ea s) → exec i s = .fault (.invalidAccess (ea s)))

/-- A test of the byte at `ea`: flags from a RAM byte, a device refused, an invalid `ea` a fault (R245). -/
def Tests8 (i : Instr) (ea : State → Word) : Prop :=
  ∀ s,
    (InRam (ea s) → exec i s = .next { s with ccr := logicCcr s.ccr (s.ram (ea s)) }) ∧
    (¬ InRam (ea s) → Readable (ea s) → exec i s = .refused (.testOfDevice (ea s))) ∧
    (¬ Readable (ea s) → exec i s = .fault (.invalidAccess (ea s)))

/-- The effective address of IX mode (R109). -/
def ixAddr (off : Byte) (s : State) : Word := s.ix + off.setWidth 16

/-- The effective address of DIR mode (R107). -/
def dirAddr (d : Byte) : Word := d.setWidth 16

/-- The effective address of IX+ mode (R110). -/
def ixpAddr (off : Option Byte) (s : State) : Word :=
  match off with
  | none => s.ix
  | some o => s.ix + o.setWidth 16

/-- IX advanced by n, after everything else (R110). -/
def advanceIx (n : Word) (t : State) : State := { t with ix := t.ix + n }

/-- The IMM form of an 8-bit instruction (R106, R280). -/
def Imm8 (i : Byte → Instr) (op : Byte) (f : Byte → State → State) : Prop :=
  ∀ v, encode (i v) = [op, v] ∧ ∀ s, exec (i v) s = .next (f v s)

/-- The DIR form (R107, R280): its address always lies in RAM. -/
def Dir8 (i : Byte → Instr) (op : Byte) (f : Byte → State → State) : Prop :=
  ∀ d, encode (i d) = [op, d] ∧ ∀ s, exec (i d) s = .next (f (s.ram (dirAddr d)) s)

/-- The IX form (R109, R280). -/
def Ix8 (i : Byte → Instr) (op : Byte) (f : Byte → State → State) : Prop :=
  ∀ off, encode (i off) = [op, off] ∧ Loads8 (i off) (ixAddr off) f

/-- The EXT form (R108, R280). -/
def Ext8 (i : Word → Instr) (op : Byte) (f : Byte → State → State) : Prop :=
  ∀ ad, encode (i ad) = [op, hiByte ad, loByte ad] ∧ Loads8 (i ad) (fun _ => ad) f

/-- The IX+ form, with no offset byte (P_IXP_OFFSET false): IX advances by one (R110, R280). -/
def Ixp8 (i : Option Byte → Instr) (op : Byte) (f : Byte → State → State) : Prop :=
  encode (i none) = [op] ∧ Loads8 (i none) (fun s => s.ix) (fun v s => advanceIx 1 (f v s))

/-- The four forms of an instruction on B: columns C, D, E and F of a row (R280). -/
def OnB (imm dir ix : Byte → Instr) (ext : Word → Instr) (row : Byte) (f : Byte → State → State) : Prop :=
  Imm8 imm (0xC0 + row) f ∧ Dir8 dir (0xD0 + row) f ∧ Ix8 ix (0xE0 + row) f ∧ Ext8 ext (0xF0 + row) f

/-- The five forms of an instruction on A: columns 7, 8, 9, A and B of a row (R280). -/
def OnA (ixp : Option Byte → Instr) (imm dir ix : Byte → Instr) (ext : Word → Instr) (row : Byte)
    (f : Byte → State → State) : Prop :=
  Ixp8 ixp (0x70 + row) f ∧ Imm8 imm (0x80 + row) f ∧ Dir8 dir (0x90 + row) f ∧ Ix8 ix (0xA0 + row) f ∧
    Ext8 ext (0xB0 + row) f

/-- The IMM, DIR, IX and EXT forms of a 16-bit instruction, with its four opcodes (R310). -/
def On16 (imm : Word → Instr) (dir ix : Byte → Instr) (ext : Word → Instr) (oImm oDir oIx oExt : Byte)
    (f : Bool → Word → State → State) : Prop :=
  (∀ w, encode (imm w) = [oImm, hiByte w, loByte w] ∧ ∀ s, ∃ h, exec (imm w) s = .next (f h w s)) ∧
  (∀ d, encode (dir d) = [oDir, d] ∧ ∀ s, ∃ h,
    exec (dir d) s = .next (f h (joinBytes (s.ram (dirAddr d)) (s.ram (dirAddr d + 1))) s)) ∧
  (∀ off, encode (ix off) = [oIx, off] ∧ Loads16 (ix off) (ixAddr off) f) ∧
  (∀ ad, encode (ext ad) = [oExt, hiByte ad, loByte ad] ∧ Loads16 (ext ad) (fun _ => ad) f)

/-- The IX+ form of a 16-bit instruction: IX advances by two (R110, R310). -/
def Ixp16 (i : Option Byte → Instr) (op : Byte) (f : Bool → Word → State → State) : Prop :=
  encode (i none) = [op] ∧ Loads16 (i none) (fun s => s.ix) (fun h w s => advanceIx 2 (f h w s))

/-- The DIR, IX and EXT forms of an 8-bit store, with their opcodes (R280). -/
def Stores8 (dir ix : Byte → Instr) (ext : Word → Instr) (oDir oIx oExt : Byte) (v : State → Byte)
    (f : State → State) : Prop :=
  (∀ d, encode (dir d) = [oDir, d] ∧ ∀ s, exec (dir d) s = .next (f (writeCells [(dirAddr d, v s)] s))) ∧
  (∀ off, encode (ix off) = [oIx, off] ∧ Stores (ix off) (fun s => [(ixAddr off s, v s)]) f) ∧
  (∀ ad, encode (ext ad) = [oExt, hiByte ad, loByte ad] ∧ Stores (ext ad) (fun s => [(ad, v s)]) f)

/-- The two bytes of a word store, in their order: high at ea, low at ea + 1 (R64, R69). -/
def wordCells (ea w : Word) : List (Word × Byte) := [(ea, hiByte w), (ea + 1, loByte w)]

/-- The DIR, IX and EXT forms of a 16-bit store, with their opcodes (R310). -/
def Stores16 (dir ix : Byte → Instr) (ext : Word → Instr) (oDir oIx oExt : Byte) (w : State → Word)
    (f : State → State) : Prop :=
  (∀ d, encode (dir d) = [oDir, d] ∧ ∀ s, exec (dir d) s = .next (f (writeCells (wordCells (dirAddr d) (w s)) s))) ∧
  (∀ off, encode (ix off) = [oIx, off] ∧ Stores (ix off) (fun s => wordCells (ixAddr off s) (w s)) f) ∧
  (∀ ad, encode (ext ad) = [oExt, hiByte ad, loByte ad] ∧ Stores (ext ad) (fun s => wordCells ad (w s)) f)

/-- The IX and EXT forms of a one-operand instruction on memory, with their opcodes (R215). -/
def OnMemory (ix : Byte → Instr) (ext : Word → Instr) (oIx oExt : Byte) (f : Byte → Ccr → Byte × Ccr) : Prop :=
  (∀ off, encode (ix off) = [oIx, off] ∧ Modifies8 (ix off) (ixAddr off) f) ∧
  (∀ ad, encode (ext ad) = [oExt, hiByte ad, loByte ad] ∧ Modifies8 (ext ad) (fun _ => ad) f)

/-- All four forms of a one-operand instruction: on A, on B, and on memory in columns 3, 4, 5 and 6 of a row (R215). -/
def OneOperand (ia ib : Instr) (ix : Byte → Instr) (ext : Word → Instr) (row : Byte) (f : Byte → Ccr → Byte × Ccr) : Prop :=
  Inherent ia (0x30 + row) (fun s => { s with a := (f s.a s.ccr).1, ccr := (f s.a s.ccr).2 }) ∧
  Inherent ib (0x40 + row) (fun s => { s with b := (f s.b s.ccr).1, ccr := (f s.b s.ccr).2 }) ∧
  OnMemory ix ext (0x50 + row) (0x60 + row) f

/-- A relative branch, taken when `cond` holds (R105, R160). -/
def Branches (i : Byte → Instr) (op : Byte) (cond : State → Prop) : Prop :=
  ∀ rel, encode (i rel) = [op, rel] ∧ ∀ s,
    (cond s → exec (i rel) s = .next { s with pc := s.pc + rel.signExtend 16 }) ∧
    (¬ cond s → exec (i rel) s = .next s)

/-- A branch whose condition alone is said: where it holds the branch does what BRA does with the same operand, and where it
does not what BRN does, so that nothing is said of the target (R161). -/
def BranchesLikeBra (i : Byte → Instr) (op : Byte) (cond : Ccr → Prop) : Prop :=
  ∀ rel, (encode (i rel)).head? = some op ∧ ∀ s,
    (cond s.ccr → exec (i rel) s = exec (.bra rel) s) ∧ (¬ cond s.ccr → exec (i rel) s = exec (.brn rel) s)

/-! ## Interrupt requests -/

/-- A source is pending and its enable bit in IRQCTL is 1 (R36, R344, R352). -/
def asks (d : Devices) : Source → Prop
  | .ext1 => d.pendExt1 = true ∧ d.irqctl.getLsbD 6 = true
  | .ext2 => d.pendExt2 = true ∧ d.irqctl.getLsbD 7 = true
  | .t1 => d.pendT1 = true ∧ d.irqctl.getLsbD 4 = true
  | .t2 => d.pendT2 = true ∧ d.irqctl.getLsbD 5 = true

/-! ## Pushing and pulling -/

/-- The two bytes of a word push, in their order: low at SP, high at SP - 1 (R12). -/
def pushCells (w : Word) (s : State) : List (Word × Byte) := [(s.sp, loByte w), (s.sp - 1, hiByte w)]

/-- The six bytes of an interrupt entry, in their order (R345, R346), `free` giving the bits of the CCR byte that hold no
flag. -/
def entryCells (free : Byte) (s : State) : List (Word × Byte) :=
  [(s.sp, loByte s.pc), (s.sp - 1, hiByte s.pc), (s.sp - 2, loByte s.ix), (s.sp - 3, hiByte s.ix), (s.sp - 4, s.a),
    (s.sp - 5, s.ccr.toByte free)]

/-- What an interrupt entry through a vector leaves, `pc` being the return address (R345). -/
def afterEntry (vector : Word) (free : Byte) (s : State) : State :=
  let w := writeCells (entryCells free s) s
  { w with
    sp := s.sp - 6
    ccr := { s.ccr with i := true }
    pc := joinBytes (w.ram vector) (w.ram (vector + 1))
    draws := s.draws + 1 }

/-- How many free values are drawn on whether recognition comes late: one, where a running machine may be late (log 9). -/
def lagDraws (s : State) : Nat := if s.run = .running ∧ s.irqLag = true then 1 else 0

/-- The interrupt is put off by one instruction (R353): only on a running machine, and only where it may be. -/
def PutOff (s : State) : Prop := s.run = .running ∧ s.irqLag = true ∧ step s = runInstr (s.boundary.drew 1)

/-- The six addresses an interrupt entry writes. -/
def frameAddrs (s : State) : List Word := [s.sp, s.sp - 1, s.sp - 2, s.sp - 3, s.sp - 4, s.sp - 5]

/-- The six bytes above SP, read in ascending order, and the state after. -/
def pullSix (s : State) : List Byte × State :=
  let r1 := readOf (s.sp + 1) s
  let r2 := readOf (s.sp + 2) r1.2
  let r3 := readOf (s.sp + 3) r2.2
  let r4 := readOf (s.sp + 4) r3.2
  let r5 := readOf (s.sp + 5) r4.2
  let r6 := readOf (s.sp + 6) r5.2
  ([r1.1, r2.1, r3.1, r4.1, r5.1, r6.1], r6.2)

/-! ## The bytes at the program counter -/

/-- The n bytes from PC on (R65). -/
def codeAt (s : State) (n : Nat) : List Byte := (List.range n).map fun k => s.ram (s.pc + BitVec.ofNat 16 k)

/-- The state in which an instruction of n bytes executes (R25, R45, R413): PC past it, its opcode in both opcode registers,
nothing left over from the instruction before. -/
def readyToExecute (n : Nat) (s : State) : State :=
  { s with pc := s.pc + BitVec.ofNat 16 n, opcode := s.ram s.pc, ccrOpcode := s.ram s.pc, stores := [], irqLag := false }

/-! ## What an instruction may change -/

/-- The six flags. -/
inductive Flag where
  | h | i | n | z | v | c
  deriving DecidableEq, Repr

/-- The value of a flag. -/
def flag (f : Ccr) : Flag → Bool
  | .h => f.h
  | .i => f.i
  | .n => f.n
  | .z => f.z
  | .v => f.v
  | .c => f.c

/-- The registers outside the CCR. -/
inductive Reg where
  | a | b | ix | sp | pc | hidden
  deriving DecidableEq, Repr

/-- The value of a register, the 8-bit ones extended by zeros. -/
def reg (s : State) : Reg → Word
  | .a => s.a.setWidth 16
  | .b => s.b.setWidth 16
  | .ix => s.ix
  | .sp => s.sp
  | .pc => s.pc
  | .hidden => s.hidden.setWidth 16

/-- The flags an instruction writes: the groups of R31 as R32 assigns them. -/
def flagsWritten : Instr → List Flag
  -- 8-bit logic
  | .clra | .tsta | .tba | .clrb | .tstb | .tab | .clrIx _ | .tstIx _ | .bclrIx _ _ | .bsetIx _ _ | .movIx _ _
  | .clrExt _ | .tstExt _ | .bclrExt _ _ | .bsetExt _ _ | .movExt _ _ | .andaIxp _ | .ldaaIxp _ | .oraaIxp _
  | .eoraIxp _ | .bitaIxp _ | .staaIxp _ | .andaImm _ | .ldaaImm _ | .oraaImm _ | .eoraImm _ | .bitaImm _
  | .andaDir _ | .ldaaDir _ | .oraaDir _ | .eoraDir _ | .bitaDir _ | .staaDir _ | .andaIx _ | .ldaaIx _ | .oraaIx _
  | .eoraIx _ | .bitaIx _ | .staaIx _ | .andaExt _ | .ldaaExt _ | .oraaExt _ | .eoraExt _ | .bitaExt _ | .staaExt _
  | .andbImm _ | .ldabImm _ | .orabImm _ | .eorbImm _ | .andbDir _ | .ldabDir _ | .orabDir _ | .eorbDir _
  | .stabDir _ | .andbIx _ | .ldabIx _ | .orabIx _ | .eorbIx _ | .stabIx _ | .andbExt _ | .ldabExt _ | .orabExt _
  | .eorbExt _ | .stabExt _ => [.v, .n, .z]
  -- 8-bit arithmetic
  | .nega | .sba | .aba | .negb | .cba | .negIx _ | .negExt _ | .subaIxp _ | .sbcaIxp _ | .addaIxp _ | .adcaIxp _
  | .cmpaIxp _ | .subaImm _ | .sbcaImm _ | .addaImm _ | .adcaImm _ | .cmpaImm _ | .subaDir _ | .sbcaDir _
  | .addaDir _ | .adcaDir _ | .cmpaDir _ | .subaIx _ | .sbcaIx _ | .addaIx _ | .adcaIx _ | .cmpaIx _ | .subaExt _
  | .sbcaExt _ | .addaExt _ | .adcaExt _ | .cmpaExt _ | .subbImm _ | .sbcbImm _ | .addbImm _ | .adcbImm _
  | .cmpbImm _ | .subbDir _ | .sbcbDir _ | .addbDir _ | .adcbDir _ | .cmpbDir _ | .subbIx _ | .sbcbIx _ | .addbIx _
  | .adcbIx _ | .cmpbIx _ | .subbExt _ | .sbcbExt _ | .addbExt _ | .adcbExt _ | .cmpbExt _ => [.v, .n, .z, .c]
  -- 8-bit INC/DEC
  | .dabnz _ | .dbbnz _ | .inca | .deca | .incb | .decb | .incIx _ | .decIx _ | .incExt _ | .decExt _ => [.v, .n, .z]
  -- 8-bit shift
  | .lsra | .rora | .asra | .lsla | .rola | .lsrb | .rorb | .asrb | .lslb | .rolb | .lsrIx _ | .rorIx _ | .asrIx _
  | .lslIx _ | .rolIx _ | .lsrExt _ | .rorExt _ | .asrExt _ | .lslExt _ | .rolExt _ => [.v, .n, .z, .c]
  -- 16-bit arithmetic
  | .subdIxp _ | .cpdIxp _ | .adddIxp _ | .subdImm _ | .adddImm _ | .subdDir _ | .adddDir _ | .subdIx _ | .adddIx _
  | .subdExt _ | .adddExt _ | .cpxImm _ | .cpdImm _ | .cpxDir _ | .cpdDir _ | .cpxIx _ | .cpdIx _ | .cpxExt _
  | .cpdExt _ => [.v, .h, .n, .z, .c]
  -- 16-bit logic
  | .tdx | .ldsImm _ | .stsDir _ | .stdDir _ | .ldsDir _ | .stsIx _ | .stdIx _ | .ldsIx _ | .stsExt _ | .stdExt _
  | .ldsExt _ | .ldxImm _ | .lddImm _ | .stxDir _ | .ldxDir _ | .lddDir _ | .stxIx _ | .ldxIx _ | .lddIx _
  | .stxExt _ | .ldxExt _ | .lddExt _ => [.v, .n, .z]
  -- set or clear V
  | .clv | .sev => [.v]
  -- set or clear C
  | .clc | .sec => [.c]
  -- set or clear I
  | .cli | .sei => [.i]
  -- branch bit test
  | .brsetIx _ _ _ | .brclrIx _ _ _ | .brsetExt _ _ _ | .brclrExt _ _ _ => [.z, .c]
  -- do not update the CCR (MUL and IDIV by P_MUL_CCR and P_IDIV)
  | .nop | .stop | .brn _ | .bra _ | .bil _ | .bih _ | .idiv | .mul | .bhcc _ | .bhcs _ | .bhi _ | .bls _ | .bcc _
  | .bcs _ | .bne _ | .beq _ | .bvc _ | .bvs _ | .bpl _ | .bmi _ | .bge _ | .blt _ | .bgt _ | .ble _ | .tsx | .txs
  | .ins | .des | .inx | .dex | .pulx | .pshx | .pula | .pulb | .psha | .pshb | .rts | .wait | .jmpIx _ | .jmpExt _
  | .ais _ | .bsr _ | .aix _ | .jsrDir _ | .jsrIx _ | .jsrExt _ => []
  -- SWI
  | .swi => [.i]
  -- RTI
  | .rti => [.h, .i, .n, .z, .v, .c]

/-- The registers an instruction writes, the CCR apart: those its rule names (IX too in the IX+ forms, R110; Hidden in MUL
and IDIV, R45). -/
def regsWritten : Instr → List Reg
  | .nop | .stop | .clv | .sev | .clc | .sec | .cli | .sei | .wait | .tsta | .tstb | .cba | .negIx _ | .clrIx _
  | .incIx _ | .decIx _ | .lsrIx _ | .rorIx _ | .asrIx _ | .lslIx _ | .rolIx _ | .tstIx _ | .bclrIx _ _ | .bsetIx _ _
  | .movIx _ _ | .negExt _ | .clrExt _ | .incExt _ | .decExt _ | .lsrExt _ | .rorExt _ | .asrExt _ | .lslExt _
  | .rolExt _ | .tstExt _ | .bclrExt _ _ | .bsetExt _ _ | .movExt _ _ | .cmpaImm _ | .bitaImm _ | .cmpaDir _
  | .bitaDir _ | .staaDir _ | .stsDir _ | .stdDir _ | .cmpaIx _ | .bitaIx _ | .staaIx _ | .stsIx _ | .stdIx _
  | .cmpaExt _ | .bitaExt _ | .staaExt _ | .stsExt _ | .stdExt _ | .cmpbImm _ | .cpxImm _ | .cpdImm _ | .cmpbDir _
  | .stabDir _ | .stxDir _ | .cpxDir _ | .cpdDir _ | .cmpbIx _ | .stabIx _ | .stxIx _ | .cpxIx _ | .cpdIx _
  | .cmpbExt _ | .stabExt _ | .stxExt _ | .cpxExt _ | .cpdExt _ => []
  | .dabnz _ => [.a, .pc]
  | .dbbnz _ => [.b, .pc]
  | .brn _ | .bra _ | .bil _ | .bih _ | .bhcc _ | .bhcs _ | .bhi _ | .bls _ | .bcc _ | .bcs _ | .bne _ | .beq _
  | .bvc _ | .bvs _ | .bpl _ | .bmi _ | .bge _ | .blt _ | .bgt _ | .ble _ | .brsetIx _ _ _ | .brclrIx _ _ _
  | .jmpIx _ | .brsetExt _ _ _ | .brclrExt _ _ _ | .jmpExt _ => [.pc]
  | .idiv | .mul => [.a, .b, .hidden]
  | .tsx | .inx | .dex | .tdx | .cmpaIxp _ | .bitaIxp _ | .staaIxp _ | .cpdIxp _ | .aix _ | .ldxImm _ | .ldxDir _
  | .ldxIx _ | .ldxExt _ => [.ix]
  | .txs | .ins | .des | .pshx | .psha | .pshb | .ais _ | .ldsImm _ | .ldsDir _ | .ldsIx _ | .ldsExt _ => [.sp]
  | .pulx => [.ix, .sp]
  | .pula => [.a, .sp]
  | .pulb => [.b, .sp]
  | .rts | .swi | .bsr _ | .jsrDir _ | .jsrIx _ | .jsrExt _ => [.sp, .pc]
  | .rti => [.a, .ix, .sp, .pc]
  | .nega | .clra | .inca | .deca | .lsra | .rora | .asra | .lsla | .rola | .tba | .sba | .aba | .subaImm _
  | .sbcaImm _ | .addaImm _ | .andaImm _ | .ldaaImm _ | .oraaImm _ | .eoraImm _ | .adcaImm _ | .subaDir _
  | .sbcaDir _ | .addaDir _ | .andaDir _ | .ldaaDir _ | .oraaDir _ | .eoraDir _ | .adcaDir _ | .subaIx _ | .sbcaIx _
  | .addaIx _ | .andaIx _ | .ldaaIx _ | .oraaIx _ | .eoraIx _ | .adcaIx _ | .subaExt _ | .sbcaExt _ | .addaExt _
  | .andaExt _ | .ldaaExt _ | .oraaExt _ | .eoraExt _ | .adcaExt _ => [.a]
  | .negb | .clrb | .incb | .decb | .lsrb | .rorb | .asrb | .lslb | .rolb | .tab | .subbImm _ | .sbcbImm _
  | .addbImm _ | .andbImm _ | .ldabImm _ | .orabImm _ | .eorbImm _ | .adcbImm _ | .subbDir _ | .sbcbDir _
  | .addbDir _ | .andbDir _ | .ldabDir _ | .orabDir _ | .eorbDir _ | .adcbDir _ | .subbIx _ | .sbcbIx _ | .addbIx _
  | .andbIx _ | .ldabIx _ | .orabIx _ | .eorbIx _ | .adcbIx _ | .subbExt _ | .sbcbExt _ | .addbExt _ | .andbExt _
  | .ldabExt _ | .orabExt _ | .eorbExt _ | .adcbExt _ => [.b]
  | .subaIxp _ | .sbcaIxp _ | .addaIxp _ | .andaIxp _ | .ldaaIxp _ | .oraaIxp _ | .eoraIxp _ | .adcaIxp _ => [.a, .ix]
  | .subdIxp _ | .adddIxp _ => [.a, .b, .ix]
  | .subdImm _ | .adddImm _ | .subdDir _ | .adddDir _ | .subdIx _ | .adddIx _ | .subdExt _ | .adddExt _ | .lddImm _
  | .lddDir _ | .lddIx _ | .lddExt _ => [.a, .b]

/-- The addresses an instruction stores a byte to, in the state it executes in. -/
def storeAddrs (s : State) : Instr → List Word
  | .pshx => [s.sp, s.sp - 1]
  | .psha => [s.sp]
  | .pshb => [s.sp]
  | .swi => [s.sp, s.sp - 1, s.sp - 2, s.sp - 3, s.sp - 4, s.sp - 5]
  | .negIx off => [s.ix + off.setWidth 16]
  | .clrIx off => [s.ix + off.setWidth 16]
  | .incIx off => [s.ix + off.setWidth 16]
  | .decIx off => [s.ix + off.setWidth 16]
  | .lsrIx off => [s.ix + off.setWidth 16]
  | .rorIx off => [s.ix + off.setWidth 16]
  | .asrIx off => [s.ix + off.setWidth 16]
  | .lslIx off => [s.ix + off.setWidth 16]
  | .rolIx off => [s.ix + off.setWidth 16]
  | .bclrIx off _ => [s.ix + off.setWidth 16]
  | .bsetIx off _ => [s.ix + off.setWidth 16]
  | .movIx off _ => [s.ix + off.setWidth 16]
  | .negExt addr => [addr]
  | .clrExt addr => [addr]
  | .incExt addr => [addr]
  | .decExt addr => [addr]
  | .lsrExt addr => [addr]
  | .rorExt addr => [addr]
  | .asrExt addr => [addr]
  | .lslExt addr => [addr]
  | .rolExt addr => [addr]
  | .bclrExt addr _ => [addr]
  | .bsetExt addr _ => [addr]
  | .movExt addr _ => [addr]
  | .staaIxp off => [ixpAddr off s]
  | .staaDir addr => [addr.setWidth 16]
  | .stsDir addr => [addr.setWidth 16, addr.setWidth 16 + 1]
  | .stdDir addr => [addr.setWidth 16, addr.setWidth 16 + 1]
  | .staaIx off => [s.ix + off.setWidth 16]
  | .stsIx off => [s.ix + off.setWidth 16, s.ix + off.setWidth 16 + 1]
  | .stdIx off => [s.ix + off.setWidth 16, s.ix + off.setWidth 16 + 1]
  | .staaExt addr => [addr]
  | .stsExt addr => [addr, addr + 1]
  | .stdExt addr => [addr, addr + 1]
  | .bsr _ => [s.sp, s.sp - 1]
  | .jsrDir _ => [s.sp, s.sp - 1]
  | .stabDir addr => [addr.setWidth 16]
  | .stxDir addr => [addr.setWidth 16, addr.setWidth 16 + 1]
  | .jsrIx _ => [s.sp, s.sp - 1]
  | .stabIx off => [s.ix + off.setWidth 16]
  | .stxIx off => [s.ix + off.setWidth 16, s.ix + off.setWidth 16 + 1]
  | .jsrExt _ => [s.sp, s.sp - 1]
  | .stabExt addr => [addr]
  | .stxExt addr => [addr, addr + 1]
  | .nop | .stop | .dabnz _ | .dbbnz _ | .brn _ | .bra _ | .bil _ | .bih _ | .idiv | .mul | .clv | .sev | .clc | .sec
  | .cli | .sei | .bhcc _ | .bhcs _ | .bhi _ | .bls _ | .bcc _ | .bcs _ | .bne _ | .beq _ | .bvc _ | .bvs _ | .bpl _
  | .bmi _ | .bge _ | .blt _ | .bgt _ | .ble _ | .tsx | .txs | .ins | .des | .inx | .dex | .pulx | .pula | .pulb
  | .rts | .rti | .wait | .nega | .clra | .inca | .deca | .lsra | .rora | .asra | .lsla | .rola | .tsta | .tdx | .tba
  | .sba | .aba | .negb | .clrb | .incb | .decb | .lsrb | .rorb | .asrb | .lslb | .rolb | .tstb | .tab | .cba
  | .tstIx _ | .brsetIx _ _ _ | .brclrIx _ _ _ | .jmpIx _ | .tstExt _ | .brsetExt _ _ _ | .brclrExt _ _ _ | .jmpExt _
  | .subaIxp _ | .sbcaIxp _ | .addaIxp _ | .andaIxp _ | .ldaaIxp _ | .oraaIxp _ | .eoraIxp _ | .adcaIxp _
  | .cmpaIxp _ | .bitaIxp _ | .subdIxp _ | .cpdIxp _ | .adddIxp _ | .subaImm _ | .sbcaImm _ | .addaImm _ | .andaImm _
  | .ldaaImm _ | .oraaImm _ | .eoraImm _ | .adcaImm _ | .cmpaImm _ | .bitaImm _ | .ais _ | .ldsImm _ | .subdImm _
  | .adddImm _ | .subaDir _ | .sbcaDir _ | .addaDir _ | .andaDir _ | .ldaaDir _ | .oraaDir _ | .eoraDir _
  | .adcaDir _ | .cmpaDir _ | .bitaDir _ | .ldsDir _ | .subdDir _ | .adddDir _ | .subaIx _ | .sbcaIx _ | .addaIx _
  | .andaIx _ | .ldaaIx _ | .oraaIx _ | .eoraIx _ | .adcaIx _ | .cmpaIx _ | .bitaIx _ | .ldsIx _ | .subdIx _
  | .adddIx _ | .subaExt _ | .sbcaExt _ | .addaExt _ | .andaExt _ | .ldaaExt _ | .oraaExt _ | .eoraExt _ | .adcaExt _
  | .cmpaExt _ | .bitaExt _ | .ldsExt _ | .subdExt _ | .adddExt _ | .subbImm _ | .sbcbImm _ | .addbImm _ | .andbImm _
  | .ldabImm _ | .orabImm _ | .eorbImm _ | .adcbImm _ | .cmpbImm _ | .aix _ | .cpxImm _ | .ldxImm _ | .cpdImm _
  | .lddImm _ | .subbDir _ | .sbcbDir _ | .addbDir _ | .andbDir _ | .ldabDir _ | .orabDir _ | .eorbDir _ | .adcbDir _
  | .cmpbDir _ | .cpxDir _ | .ldxDir _ | .cpdDir _ | .lddDir _ | .subbIx _ | .sbcbIx _ | .addbIx _ | .andbIx _
  | .ldabIx _ | .orabIx _ | .eorbIx _ | .adcbIx _ | .cmpbIx _ | .cpxIx _ | .ldxIx _ | .cpdIx _ | .lddIx _
  | .subbExt _ | .sbcbExt _ | .addbExt _ | .andbExt _ | .ldabExt _ | .orabExt _ | .eorbExt _ | .adcbExt _
  | .cmpbExt _ | .cpxExt _ | .ldxExt _ | .cpdExt _ | .lddExt _ => []

/-- The address of an MM register (R35; the control registers as conflict C8 is resolved, log 22). -/
def mmAddr : MmReg → Word
  | .irqctl => 0x8000
  | .tmrctl => 0x8001
  | .t1perH => 0x8002
  | .t1perL => 0x8003
  | .t2perH => 0x8004
  | .t2perL => 0x8005
  | .out1 => 0x8006
  | .out2 => 0x8007
  | .in1 => 0x8008
  | .in2 => 0x8009
  | .t1cntH => 0x800A
  | .t1cntL => 0x800B
  | .t2cntH => 0x800C
  | .t2cntL => 0x800D

/-- The byte an MM register holds: as last written, or as its device presents it. -/
def held (d : Devices) : MmReg → Byte
  | .irqctl => d.irqctl
  | .tmrctl => d.tmrctl
  | .t1perH => d.t1perH
  | .t1perL => d.t1perL
  | .t2perH => d.t2perH
  | .t2perL => d.t2perL
  | .out1 => d.out1
  | .out2 => d.out2
  | .in1 => d.in1
  | .in2 => d.in2
  | .t1cntH => d.t1cntH
  | .t1cntL => d.t1cntL
  | .t2cntH => d.t2cntH
  | .t2cntL => d.t2cntL

/-- The registers a write to which can change what this one holds: itself, and for a count TMRCTL with its Timer Reset bits
(R37, R38). -/
def changedBy : MmReg → List MmReg
  | .t1cntH => [.t1cntH, .tmrctl]
  | .t1cntL => [.t1cntL, .tmrctl]
  | .t2cntH => [.t2cntH, .tmrctl]
  | .t2cntL => [.t2cntL, .tmrctl]
  | r => [r]

/-! ## The invariant -/

/-- The byte last written to an output port (R361). -/
def lastOutput (p : OutPort) (d : Devices) : Option Byte := (d.outputs.find? fun o => o.1 == p).map fun o => o.2

/-- What holds of the machine after every step. -/
structure Inv (s : State) : Prop where
  /-- RAM is in its canonical form: rising addresses below 0x8000, no entry equal to what an unlisted byte reads as. -/
  ramCanonical : s.mem.wf = true
  /-- Only RAM stores are noted for the lookahead hazard (R84). -/
  storesInRam : ∀ a ∈ s.stores, InRam a
  /-- Late recognition is possible only with interrupts enabled (R353). -/
  lagOnlyUnmasked : s.irqLag = true → s.ccr.i = false
  /-- A machine that waits or has stopped left nothing of its last instruction behind. -/
  quietWhenNotRunning : s.run ≠ .running → s.stores = [] ∧ s.irqLag = false
  /-- The second opcode register holds a defined opcode, never one of the eleven empty ones (R120, R413). -/
  opcodeDefined : (operandBytes s.ccrOpcode).isSome = true
  /-- OUT1 presents the byte last written to it (R40, R361). -/
  out1Last : ∀ v, lastOutput .out1 s.dev = some v → s.dev.out1 = v
  /-- OUT2 presents the byte last written to it (R40, R361). -/
  out2Last : ∀ v, lastOutput .out2 s.dev = some v → s.dev.out2 = v

end Sys2Proof.Safety
end

