-- ==== Sys2Proof/Certificates/Slice0/Obligations.lean ====
section
/-! DEFINITION. The statements about the machine that the provers settle. Each docstring names the rules of spec/ it follows;
where the spec marks a rule as its own decision or as general knowledge, it names the log entry that carries the choice. -/

open Sys2Proof Sys2Proof.Machine Sys2Proof.Safety

/-! ## Encoding -/

/-- Decoding the encoding of a well-formed instruction, whatever follows it, gives the instruction and what follows (R100,
R112, R114; the layouts are the spec's decisions D1 to D9, log 28 and log 20). -/
def Obligations.DecodeEncodeAgree : Prop :=
  ∀ (i : Instr) (rest : List Byte), i.wf = true → decode (encode i ++ rest) = .ok i rest

/-- Bytes that decode are the encoding of the well-formed instruction they decode to: no second spelling (R100, R121, R122;
decisions D1 to D9, log 28). -/
def Obligations.DecodedBytesAreTheEncoding : Prop :=
  ∀ (bs : List Byte) (i : Instr) (rest : List Byte), decode bs = .ok i rest → i.wf = true ∧ bs = encode i ++ rest

/-- The opcode byte alone selects: the eleven empty cells of the map are refused whatever follows and nothing else is (R120;
the fault is the spec's decision D30), and it fixes the length, 1 to 5 bytes (R112, R122; decision D2; log 28). -/
def Obligations.OpcodeByteFixesLengthOrIsEmpty : Prop :=
  (∀ (op : Byte) (bs : List Byte),
    (∃ x, decode (op :: bs) = .illegal x) ↔
      op ∈ [0x3B, 0x3D, 0x4A, 0x4B, 0x4D, 0x4F, 0x7B, 0x7C, 0x8A, 0x8C, (0xCA : Byte)]) ∧
  (∀ i j : Instr, i.wf = true → j.wf = true → (encode i).head? = (encode j).head? →
    (encode i).length = (encode j).length ∧ 1 ≤ (encode i).length ∧ (encode i).length ≤ 5)

/-- The words of the spec's own examples decode to the instructions they stand for (examples of R141 to R324). -/
def Obligations.ExampleWordsDecode : Prop :=
  decode [0x00] = .ok .nop [] ∧ decode [0x05, 0xFE] = .ok (.bra 0xFE) [] ∧ decode [0x2F] = .ok .swi [] ∧
  decode [0x32] = .ok .inca [] ∧ decode [0x60, 0x00, 0x40] = .ok (.negExt 0x0040) [] ∧
  decode [0x5A, 0x02, 0x01, 0xFC] = .ok (.brsetIx 0x02 0x01 0xFC) [] ∧
  decode [0x6B, 0x80, 0x08, 0x10, 0xFB] = .ok (.brclrExt 0x8008 0x10 0xFB) [] ∧
  decode [0x6E, 0x80, 0x06, 0xFF] = .ok (.movExt 0x8006 0xFF) [] ∧ decode [0x74] = .ok (.ldaaIxp none) [] ∧
  decode [0xA2, 0x0A] = .ok (.addaIx 0x0A) [] ∧ decode [0x8E, 0x00, 0x01] = .ok (.subdImm 0x0001) [] ∧
  decode [0xC9, 0x10] = .ok (.bsr 0x10) []

/-! ## The step -/

/-- When the bytes at PC decode to an instruction, a step that enters no interrupt runs exactly it, with PC past its bytes
(R25, R114, R373), and ends with the next opcode loaded ahead (R402; where it stores to that byte or leaves RAM, as log 26
has it). The rest is the model's reading: its opcode stands in both opcode registers while it runs (DEDUCED, log 26), one tick
of the environment happens first (log 6), and the notes of stores and of late recognition are cleared (log 10, the spec's
decision D36; log 9, its decision D26). -/
def Obligations.StepRunsTheDecodedInstruction : Prop :=
  ∀ (s : State) (n : Nat) (i : Instr), s.run = .running → s.boundary.interruption = false → s.pc ∉ s.stores →
    (∀ k < n, InRam (s.pc + BitVec.ofNat 16 k)) → decode (codeAt s n) = .ok i [] →
    step s = andThen (exec i (readyToExecute n s.boundary)) fun t => .next (t.lookahead s.mem)

/-- Where a fetch stops: at an opcode byte the instruction before stored to (R84, R402), at an opcode or operand byte outside
RAM (R74, R75), at an empty opcode (R120). All are the spec's decisions D30, D31 and D36 (log 10, log 28). -/
def Obligations.FetchStopsAsTheSpecSays : Prop :=
  ∀ s : State, s.run = .running → s.boundary.interruption = false →
    (s.pc ∈ s.stores → step s = .fault (.opcodeOverwritten s.pc)) ∧
    (s.pc ∉ s.stores → ¬ InRam s.pc → step s = .fault (.invalidAccess s.pc)) ∧
    (s.pc ∉ s.stores → InRam s.pc → operandBytes (s.ram s.pc) = none → step s = .fault (.illegalOpcode (s.ram s.pc))) ∧
    (∀ n k : Nat, s.pc ∉ s.stores → operandBytes (s.ram s.pc) = some n → k < n →
      (∀ j ≤ k, InRam (s.pc + BitVec.ofNat 16 j)) → ¬ InRam (s.pc + BitVec.ofNat 16 (k + 1)) →
      step s = .fault (.invalidAccess (s.pc + BitVec.ofNat 16 (k + 1))))

/-- The lookahead and its hazard (R84, R402). After an instruction, the noted addresses are the RAM addresses it stored to (the
fault on them is the spec's decision D36, log 10). Every step but a boundary spent waiting leaves the opcode byte of what
executes next in the Opcode register, the branch target's or the routine's too; where the step stored to that byte, the old
or the new one, since R402 leaves the place of the load open (log 26). -/
def Obligations.StoredRamAddressesAreNoted : Prop :=
  (∀ (i : Instr) (s t : State), s.stores = [] → exec i s = .next t →
    ∀ a, a ∈ t.stores ↔ a ∈ storeAddrs s i ∧ InRam a) ∧
  (∀ s t : State, step s = .next t → (s.run = .waiting ∧ t = s.boundary) ∨
    ((InRam t.pc → t.pc ∉ t.stores → t.opcode = t.ram t.pc) ∧
      (t.pc ∈ t.stores → InRam t.pc ∧ (t.opcode = s.ram t.pc ∨ t.opcode = t.ram t.pc))))

/-- The state after reset: PC 0x0100 (the spec's decision D32, log 3), fetching, memory with nothing listed, nothing pending;
every other value is the model's choice (log 1, log 2, log 4, log 6, log 9, log 10). -/
def Obligations.ResetStartsAtProgramRegion : Prop :=
  State.reset.pc = 0x0100 ∧ State.reset.run = .running ∧ State.reset.mem = [] ∧ State.reset.stores = [] ∧
    State.reset.dev.pendExt1 = false ∧ State.reset.dev.pendExt2 = false ∧ State.reset.dev.pendT1 = false ∧
    State.reset.dev.pendT2 = false ∧ (∀ src, ¬ asks State.reset.dev src) ∧ State.reset.interruption = false ∧
    State.reset.irqLag = false ∧ State.reset.env = []

/-- The invariant holds at reset, whose values are the model's (log 1, log 4, log 9, log 10, log 24, log 26). -/
def Obligations.ResetMeetsTheInvariant : Prop := Inv State.reset

/-- Every step keeps the invariant, which is the model's: canonical RAM (log 4, and log 23 for its extent); stores noted in
RAM only (log 10); late recognition only with I = 0 (log 9); nothing noted while waiting or stopped (log 9, log 10); an
opcode that is not one of the eleven empty ones in the second opcode register at a boundary (DEDUCED, log 26; R120, R413);
each output port presenting the byte last recorded for it (R40, R361; log 24). -/
def Obligations.EveryStepKeepsTheInvariant : Prop :=
  ∀ s t : State, Inv s → step s = .next t → Inv t

/-- Why a step may stop, and nothing else (R341, R372): an access outside 0x0000 to 0x800D, or a fetch outside RAM; an empty
opcode; an overwritten opcode (log 10); a run that has ended (log 11); a write to an input register (log 13); TST of a
device (log 14). No instruction is refused as not modelled. -/
def Obligations.StopsAreOnlyTheNamedOnes : Prop :=
  ∀ s : State,
    (∀ r, step s = .fault r →
      (∃ a, r = .invalidAccess a ∧ ¬ Readable a) ∨
      (∃ k, k ≤ 4 ∧ r = .invalidAccess (s.pc + BitVec.ofNat 16 k) ∧ ¬ InRam (s.pc + BitVec.ofNat 16 k)) ∨
      (r = .illegalOpcode (s.ram s.pc) ∧ operandBytes (s.ram s.pc) = none) ∨
      (r = .opcodeOverwritten s.pc ∧ s.pc ∈ s.stores) ∨
      (r = .runEnded ∧ s.run = .stopped)) ∧
    (∀ r, step s = .refused r →
      (∃ a, r = .inputRegisterWrite a ∧ 0x8008 ≤ a.toNat ∧ a.toNat ≤ 0x800D) ∨
      (∃ a, r = .testOfDevice a ∧ 0x8000 ≤ a.toNat ∧ a.toNat ≤ 0x800D))

/-! ## Interrupts -/

/-- The recognition unit (R344, R352): the request line is up exactly if I is 0 and an enabled source is pending; the source
it selects is one of those (log 8); a reset bit of IRQCTL written 1 clears its source's flag; with I = 1 no interrupt is
taken. Polarities are the spec's decision D27 (log 30), and that IRQCTL is at 0x8000 is the spec's resolution of conflict C8
(P_C8_ALT false, log 22), the reading this statement is about. -/
def Obligations.RecognitionUnitMasksAndSelects : Prop :=
  (∀ s : State, s.interruption = true ↔ s.ccr.i = false ∧ ∃ src, asks s.dev src) ∧
  (∀ s : State, s.interruption = true → asks s.dev s.selected) ∧
  (∀ (s : State) (v : Byte), ∃ t, write8 0x8000 v s = .next t ∧
    (t.dev.pendExt2 = (s.dev.pendExt2 && !v.getLsbD 3)) ∧ (t.dev.pendExt1 = (s.dev.pendExt1 && !v.getLsbD 2)) ∧
    (t.dev.pendT2 = (s.dev.pendT2 && !v.getLsbD 1)) ∧ (t.dev.pendT1 = (s.dev.pendT1 && !v.getLsbD 0))) ∧
  (∀ s : State, s.run = .running → s.ccr.i = true → step s = runInstr s.boundary)

/-- A recognised interrupt is entered instead of the next instruction, from a running or a waiting machine: a pending enabled
source's vector, the six stacked bytes, I set, SWI in the opcode registers in place of the opcode loaded ahead, and the
routine's first opcode then loaded ahead (R343, R345, R347, R353, R365, R402; the stack order, the return address and the free
choice of source are the spec's decisions D16, D25 and D26, log 8 and log 28; that the second opcode register still holds
SWI at the boundary after is DEDUCED, log 26). The first stack address that takes no write stops the entry, as it stops SWI's
(R345, R372; log 13). Where recognition may come late (decision D26, log 9), one of these, or one instruction runs first. -/
def Obligations.HardwareInterruptIsEntered : Prop :=
  (Source.vector .ext1 = 0x7FF8 ∧ Source.vector .ext2 = 0x7FFA ∧ Source.vector .t1 = 0x7FFC ∧ Source.vector .t2 = 0x7FFE) ∧
  ∀ s : State, s.run ≠ .stopped → s.boundary.interruption = true →
    ((∀ a ∈ frameAddrs s, Writable a) → PutOff s ∨
      ∃ src free, asks s.boundary.dev src ∧
        step s = .next ((afterEntry src.vector free
          { s.boundary with
            run := .running, opcode := 0x2F, ccrOpcode := 0x2F, stores := [], irqLag := false
            draws := s.draws + lagDraws s + 1 }).lookahead s.mem)) ∧
    (∀ a, (frameAddrs s).find? (fun x => !decide (Writable x)) = some a → PutOff s ∨ step s = writeStop a)

/-- Recognition can come one instruction late, and only after CLI or an RTI that restores I = 0 (R149, R353; that both are
possible is the spec's decision D26, log 9). -/
def Obligations.RecognitionMayComeOneInstructionLate : Prop :=
  (∀ s : State, s.run = .running → s.boundary.interruption = true → s.irqLag = true →
    step s = runInstr (s.boundary.drew 1) ∨ step s = enterInterrupt (s.boundary.drew 1)) ∧
  (∀ (i : Instr) (s t : State), s.irqLag = false → exec i s = .next t → t.irqLag = true →
    (i = .cli ∨ i = .rti) ∧ t.ccr.i = false)

/-- ACCB is not saved by entry and not restored by RTI (R349, R404): neither reads or writes it, whatever its value, and the
six bytes an entry stores are those of PC, IX, A and the CCR, SP not among them. The frame rests on the spec's decisions D16
(stack order), D25 (return address) and D10 (the CCR byte), and RTI on D24 (log 28 and log 16). -/
def Obligations.EntryAndReturnIgnoreAccB : Prop :=
  (∀ (vector : Word) (s : State) (x : Byte),
    trapEntry vector { s with b := x } = andThen (trapEntry vector s) fun t => .next { t with b := x }) ∧
  (∀ (s : State) (x : Byte),
    exec .rti { s with b := x } = andThen (exec .rti s) fun t => .next { t with b := x }) ∧
  (∀ (vector : Word) (s t : State), trapEntry vector s = .next t → t.b = s.b) ∧
  (∀ s t : State, exec .rti s = .next t → t.b = s.b) ∧
  (∀ (vector : Word) (s : State), InRam vector → InRam (vector + 1) → (∀ a ∈ frameAddrs s, Writable a) →
    ∃ free, trapEntry vector s = .next (afterEntry vector free s))

/-- SWI: the entry through 0x7FF6, with PC as the return address, not masked by I; the first stack address that takes no
write stops it (R206, R345; stack order and return address are the spec's decisions D16 and D25, log 28). -/
def Obligations.SoftwareInterruptIsEntered : Prop :=
  encode .swi = [0x2F] ∧ ∀ s : State,
    ((∀ a ∈ frameAddrs s, Writable a) → ∃ free, exec .swi s = .next (afterEntry 0x7FF6 free s)) ∧
    (∀ a, (frameAddrs s).find? (fun x => !decide (Writable x)) = some a → exec .swi s = writeStop a)

/-- The frame SWI leaves, byte by byte, on a stack in RAM, and that no other byte of RAM changes (R346; the layout is the
spec's decision D16, log 28). -/
def Obligations.InterruptFrameLayout : Prop :=
  ∀ s : State, 5 ≤ s.sp.toNat → InRam s.sp → ∃ t free, exec .swi s = .next t ∧ t.sp = s.sp - 6 ∧
    t.ram s.sp = loByte s.pc ∧ t.ram (s.sp - 1) = hiByte s.pc ∧ t.ram (s.sp - 2) = loByte s.ix ∧
    t.ram (s.sp - 3) = hiByte s.ix ∧ t.ram (s.sp - 4) = s.a ∧ t.ram (s.sp - 5) = s.ccr.toByte free ∧
    (∀ a, a ∉ frameAddrs s → t.ram a = s.ram a) ∧ t.ccr = { s.ccr with i := true } ∧
    t.a = s.a ∧ t.b = s.b ∧ t.ix = s.ix ∧ t.dev = s.dev

/-- There are no cause codes (R342): two causes whose vectors hold the same handler address leave exactly the same state, be it
in registers, in the frame or anywhere, so that nothing tells them apart. (The premise keeps both vectors clear of the bytes
the entry itself stacks.) -/
def Obligations.CausesLeaveNoTrace : Prop :=
  ∀ (v w : Word) (s : State), InRam v → InRam (v + 1) → InRam w → InRam (w + 1) →
    (∀ a ∈ [v, v + 1, w, w + 1], a ∉ frameAddrs s) →
    joinBytes (s.ram v) (s.ram (v + 1)) = joinBytes (s.ram w) (s.ram (w + 1)) →
    trapEntry v s = trapEntry w s

/-- RTI undoes SWI: A, B, IX, SP, PC and all six flags are those before (R204, R356; decision D24, log 28). -/
def Obligations.RtiUndoesSwi : Prop :=
  ∀ s : State, 5 ≤ s.sp.toNat → InRam s.sp → ∃ t u, exec .swi s = .next t ∧ exec .rti t = .next u ∧
    u.a = s.a ∧ u.b = s.b ∧ u.ix = s.ix ∧ u.sp = s.sp ∧ u.pc = s.pc ∧ u.ccr = s.ccr

/-- A hardware interrupt whose routine is a single RTI is transparent: two steps later every CPU register and every byte of
RAM outside the six stacked bytes is as before (R345, R347, R353, R356; decisions D16, D24 and D25, log 28). -/
def Obligations.InterruptAndReturnAreTransparent : Prop :=
  ∀ (s : State) (h : Word), s.run = .running → s.irqLag = false → s.boundary.interruption = true →
    5 ≤ s.sp.toNat → s.sp.toNat < 0x7FF8 →
    (∀ src, asks s.boundary.dev src → joinBytes (s.ram src.vector) (s.ram (src.vector + 1)) = h) →
    InRam h → h ∉ frameAddrs s → s.ram h = 0x2D →
    ∃ t u, step s = .next t ∧ step t = .next u ∧
      u.a = s.a ∧ u.b = s.b ∧ u.ix = s.ix ∧ u.sp = s.sp ∧ u.pc = s.pc ∧ u.ccr = s.ccr ∧
      ∀ a, a ∉ frameAddrs s → u.ram a = s.ram a

/-- A waiting machine with no interrupt to take only lets the boundary's tick happen, and with I = 1 it waits forever,
whatever the environment does; a stopped machine steps no more (R205, R365, R366; decision D29, log 11 and log 12). -/
def Obligations.WaitingStuttersAndStoppedEnds : Prop :=
  (∀ s : State, s.run = .waiting → s.boundary.interruption = false → step s = .next s.boundary) ∧
  (∀ (k : Nat) (s : State), s.run = .waiting → s.ccr.i = true →
    ∃ t, Sys2Proof.core.run k s = .next t ∧ t.run = .waiting ∧ t.pc = s.pc ∧ t.sp = s.sp ∧ t.ix = s.ix ∧
      t.a = s.a ∧ t.b = s.b ∧ t.ccr = s.ccr ∧ t.mem = s.mem) ∧
  (∀ s : State, s.run = .stopped → step s = .fault .runEnded)

/-- What the environment does at a boundary (R81, R350, R360, R361, R370; decisions D27, D28 and D35, log 6 and log 7): it
sets pending flags, a timer's only while its enable bit in TMRCTL is 1, and presents the ports and the counts; nothing else.
That a request sets its flag whatever the enable bit EN_s of IRQCTL holds is the model's choice, which R352 leaves unspecified
(DESIGN CHOICE, log 29). -/
def Obligations.EnvironmentActsOnlyOnItsOwnState : Prop :=
  ∀ s : State,
    (s.env = [] → s.boundary = s) ∧
    (∀ e rest, s.env = e :: rest →
      s.boundary = { s with env := rest, dev := s.boundary.dev } ∧
      s.boundary.dev = { s.dev with
        pendExt1 := s.boundary.dev.pendExt1, pendExt2 := s.boundary.dev.pendExt2
        pendT1 := s.boundary.dev.pendT1, pendT2 := s.boundary.dev.pendT2
        in1 := e.in1, in2 := e.in2
        t1cntH := e.t1cntH, t1cntL := e.t1cntL, t2cntH := e.t2cntH, t2cntL := e.t2cntL } ∧
      (s.boundary.dev.pendExt1 = true ↔ s.dev.pendExt1 = true ∨ e.reqExt1 = true) ∧
      (s.boundary.dev.pendExt2 = true ↔ s.dev.pendExt2 = true ∨ e.reqExt2 = true) ∧
      (s.boundary.dev.pendT1 = true ↔ s.dev.pendT1 = true ∨ (e.reqT1 = true ∧ s.dev.tmrctl.getLsbD 3 = true)) ∧
      (s.boundary.dev.pendT2 = true ↔ s.dev.pendT2 = true ∨ (e.reqT2 = true ∧ s.dev.tmrctl.getLsbD 2 = true)))

/-! ## Memory and the memory-mapped registers -/

/-- Reading a byte, region by region (R35, R38 to R41, R70, R73, R74, R360): RAM; the fourteen registers, where a reset bit
or an output port may read as any value (decisions D27 and D44, log 15); nothing above (decision D31, log 28). That 0x8000
reads IRQCTL and 0x8001 TMRCTL is the spec's resolution of conflict C8 (P_C8_ALT false, log 22). -/
def Obligations.ReadsByRegion : Prop :=
  ∀ s : State,
    (∀ a, InRam a → read8 a s = .next (s.ram a, s)) ∧
    (∃ x, read8 0x8000 s = .next (x, s.drew 1) ∧ x &&& 0xF0 = s.dev.irqctl &&& 0xF0) ∧
    (∃ x, read8 0x8001 s = .next (x, s.drew 1) ∧ x &&& 0xFC = s.dev.tmrctl &&& 0xFC) ∧
    read8 0x8002 s = .next (s.dev.t1perH, s) ∧ read8 0x8003 s = .next (s.dev.t1perL, s) ∧
    read8 0x8004 s = .next (s.dev.t2perH, s) ∧ read8 0x8005 s = .next (s.dev.t2perL, s) ∧
    (∃ x, read8 0x8006 s = .next (x, s.drew 1)) ∧ (∃ x, read8 0x8007 s = .next (x, s.drew 1)) ∧
    read8 0x8008 s = .next (s.dev.in1, s) ∧ read8 0x8009 s = .next (s.dev.in2, s) ∧
    read8 0x800A s = .next (s.dev.t1cntH, s) ∧ read8 0x800B s = .next (s.dev.t1cntL, s) ∧
    read8 0x800C s = .next (s.dev.t2cntH, s) ∧ read8 0x800D s = .next (s.dev.t2cntL, s) ∧
    (∀ a, ¬ Readable a → read8 a s = .fault (.invalidAccess a))

/-- Reads have no side effect (R78): a read that completes leaves the whole state as it was, but for the model's own count of
free values (log 5), and a read of RAM, where it is the same value read again, not even that. A read of an input port or of a
count returns what the environment presents at the boundary, whatever the program did: in the model the tick's byte (log 6, log 7),
at the addresses that R35 gives them (the spec's resolution of conflict C7; that they take no write is decision D44). -/
def Obligations.ReadsHaveNoSideEffect : Prop :=
  (∀ (a : Word) (v : Byte) (s t : State), read8 a s = .next (v, t) →
    t = { s with draws := t.draws } ∧ (InRam a → t = s ∧ read8 a t = .next (v, t))) ∧
  (∀ (s : State) (e : EnvTick) (rest : List EnvTick), s.env = e :: rest →
    read8 0x8008 s.boundary = .next (e.in1, s.boundary) ∧ read8 0x8009 s.boundary = .next (e.in2, s.boundary) ∧
    read8 0x800A s.boundary = .next (e.t1cntH, s.boundary) ∧ read8 0x800B s.boundary = .next (e.t1cntL, s.boundary) ∧
    read8 0x800C s.boundary = .next (e.t2cntH, s.boundary) ∧ read8 0x800D s.boundary = .next (e.t2cntL, s.boundary))

/-- Writing a byte, region by region (R35 to R41, R70, R73, R74, R351, R360, R361). RAM takes the byte, and the model notes
the address (log 10). Each reset bit of IRQCTL written 1 clears its pending flag and each of TMRCTL zeroes its count
(decisions D27 and D28, log 7 and log 30); that they stand at 0x8000 and 0x8001 is the spec's resolution of conflict C8
(P_C8_ALT false, log 22). The periods are stored. An output port presents the byte, which is observable output, recorded
newest first (DESIGN CHOICE, log 24). An input register refuses (decision D44, log 13), and an address above faults (decision
D31, log 28). -/
def Obligations.WritesByRegion : Prop :=
  ∀ (s : State) (v : Byte),
    (∀ a, InRam a → ∃ t, write8 a v s = .next t ∧ t.ram a = v ∧ (∀ b, b ≠ a → t.ram b = s.ram b) ∧
      t = { s with mem := t.mem, stores := a :: s.stores }) ∧
    write8 0x8000 v s = .next { s with dev := { s.dev with
      irqctl := v
      pendExt2 := if v.getLsbD 3 then false else s.dev.pendExt2
      pendExt1 := if v.getLsbD 2 then false else s.dev.pendExt1
      pendT2 := if v.getLsbD 1 then false else s.dev.pendT2
      pendT1 := if v.getLsbD 0 then false else s.dev.pendT1 } } ∧
    write8 0x8001 v s = .next { s with dev := { s.dev with
      tmrctl := v
      t1cntH := if v.getLsbD 1 then 0 else s.dev.t1cntH
      t1cntL := if v.getLsbD 1 then 0 else s.dev.t1cntL
      t2cntH := if v.getLsbD 0 then 0 else s.dev.t2cntH
      t2cntL := if v.getLsbD 0 then 0 else s.dev.t2cntL } } ∧
    write8 0x8002 v s = .next { s with dev := { s.dev with t1perH := v } } ∧
    write8 0x8003 v s = .next { s with dev := { s.dev with t1perL := v } } ∧
    write8 0x8004 v s = .next { s with dev := { s.dev with t2perH := v } } ∧
    write8 0x8005 v s = .next { s with dev := { s.dev with t2perL := v } } ∧
    write8 0x8006 v s = .next { s with dev := { s.dev with out1 := v, outputs := (.out1, v) :: s.dev.outputs } } ∧
    write8 0x8007 v s = .next { s with dev := { s.dev with out2 := v, outputs := (.out2, v) :: s.dev.outputs } } ∧
    (∀ a, Readable a → ¬ Writable a → write8 a v s = .refused (.inputRegisterWrite a)) ∧
    (∀ a, ¬ Readable a → write8 a v s = .fault (.invalidAccess a))

/-- RAM returns the byte last written, and two writes to different bytes commute (R70, R80; decision D40, log 23). -/
def Obligations.RamKeepsWhatWasWritten : Prop :=
  (∀ (a : Word) (v : Byte) (s t : State), InRam a → write8 a v s = .next t →
    read8 a t = .next (v, t) ∧ ∀ b, InRam b → b ≠ a → read8 b t = .next (s.ram b, t)) ∧
  (∀ (a b : Word) (x y : Byte) (s t u t' u' : State), InRam a → InRam b → a ≠ b → s.mem.wf = true →
    write8 a x s = .next t → write8 b y t = .next u → write8 b y s = .next t' → write8 a x t' = .next u' →
    u.mem = u'.mem)

/-- A word is stored high byte first, at any alignment, and read back whole; two bytes read as the word they make (R64, R66,
R67; the byte order is the spec's decision D6, log 28). -/
def Obligations.WordsAreBigEndian : Prop :=
  ∀ (a w : Word) (s : State), InRam a → InRam (a + 1) → ∃ t, write16 a w s = .next t ∧
    read8 a t = .next (hiByte w, t) ∧ read8 (a + 1) t = .next (loByte w, t) ∧ read16 a t = .next (w, t) ∧
    read16 a s = .next (joinBytes (s.ram a) (s.ram (a + 1)), s)

/-! ## Flags -/

/-- The CCR byte an entry stacks, and that reading it back gives the six flags whatever bits 7 and 6 hold (R28; the layout is
the spec's decision D10, log 16). -/
def Obligations.CcrByteLayout : Prop :=
  ∀ (f : Ccr) (free : Byte),
    ((f.toByte free).getLsbD 5 = f.h ∧ (f.toByte free).getLsbD 4 = f.i ∧ (f.toByte free).getLsbD 3 = f.n ∧
      (f.toByte free).getLsbD 2 = f.z ∧ (f.toByte free).getLsbD 1 = f.v ∧ (f.toByte free).getLsbD 0 = f.c ∧
      (f.toByte free).extractLsb' 6 2 = free.extractLsb' 6 2) ∧
    Ccr.ofByte (f.toByte free) = f

/-- ADD_n: the sum modulo 2^n, C its carry, V exactly the two's-complement overflow of the exact signed sum, N its sign, Z
whether it is zero (R14; the Motorola formulas, decision D12, log 28). -/
def Obligations.AddFlagsMeanCarryAndOverflow : Prop :=
  ∀ (w : Nat) (a b : BitVec w) (cin : Bool), 0 < w →
    (addFlags a b cin).r.toNat = (a.toNat + b.toNat + cin.toNat) % 2 ^ w ∧
    ((addFlags a b cin).c = true ↔ 2 ^ w ≤ a.toNat + b.toNat + cin.toNat) ∧
    ((addFlags a b cin).v = true ↔
      a.toInt + b.toInt + cin.toNat < -2 ^ (w - 1) ∨ 2 ^ (w - 1) ≤ a.toInt + b.toInt + cin.toNat) ∧
    ((addFlags a b cin).n = true ↔ (addFlags a b cin).r.toInt < 0) ∧
    ((addFlags a b cin).z = true ↔ (addFlags a b cin).r = 0)

/-- SUB_n: the difference modulo 2^n, C the borrow, V exactly the two's-complement overflow of the exact signed difference, N
its sign, Z whether it is zero (R14; the Motorola formulas, decision D12, log 28). -/
def Obligations.SubFlagsMeanBorrowAndOverflow : Prop :=
  ∀ (w : Nat) (a b : BitVec w) (bin : Bool), 0 < w →
    ((addFlags (subFlags a b bin).r b bin).r = a) ∧
    ((subFlags a b bin).c = true ↔ a.toNat < b.toNat + bin.toNat) ∧
    ((subFlags a b bin).v = true ↔
      a.toInt - b.toInt - bin.toNat < -2 ^ (w - 1) ∨ 2 ^ (w - 1) ≤ a.toInt - b.toInt - bin.toNat) ∧
    ((subFlags a b bin).n = true ↔ (subFlags a b bin).r.toInt < 0) ∧
    ((subFlags a b bin).z = true ↔ (subFlags a b bin).r = 0)

/-- After CMPA with m, the ten comparing branches are taken exactly if A and m stand in the relation their names say, unsigned
or signed (41_branches.md, Summary; the Motorola reading, decision D12, log 28). -/
def Obligations.BranchesAfterCompareMeanTheRelation : Prop :=
  ∀ (s : State) (m rel : Byte), ∃ t, exec (.cmpaImm m) s = .next t ∧
    exec (.bhi rel) t = .next (if m.toNat < s.a.toNat then { t with pc := t.pc + rel.signExtend 16 } else t) ∧
    exec (.bls rel) t = .next (if s.a.toNat ≤ m.toNat then { t with pc := t.pc + rel.signExtend 16 } else t) ∧
    exec (.bcc rel) t = .next (if m.toNat ≤ s.a.toNat then { t with pc := t.pc + rel.signExtend 16 } else t) ∧
    exec (.bcs rel) t = .next (if s.a.toNat < m.toNat then { t with pc := t.pc + rel.signExtend 16 } else t) ∧
    exec (.bne rel) t = .next (if s.a ≠ m then { t with pc := t.pc + rel.signExtend 16 } else t) ∧
    exec (.beq rel) t = .next (if s.a = m then { t with pc := t.pc + rel.signExtend 16 } else t) ∧
    exec (.bge rel) t = .next (if m.toInt ≤ s.a.toInt then { t with pc := t.pc + rel.signExtend 16 } else t) ∧
    exec (.blt rel) t = .next (if s.a.toInt < m.toInt then { t with pc := t.pc + rel.signExtend 16 } else t) ∧
    exec (.bgt rel) t = .next (if m.toInt < s.a.toInt then { t with pc := t.pc + rel.signExtend 16 } else t) ∧
    exec (.ble rel) t = .next (if s.a.toInt ≤ m.toInt then { t with pc := t.pc + rel.signExtend 16 } else t)

/-- Adding or subtracting byte by byte with the carry gives the word result and its C, V and N: ADDB then ADCA those of ADDD,
SUBB then SBCA those of SUBD (R282, R288, R294, R292 with R321, R323; decision D12, log 28). Nothing is said of Z, which is
that of the last byte alone (R282), nor of H. -/
def Obligations.ByteChainsMatchWordArithmetic : Prop :=
  ∀ (s : State) (w : Word),
    (∃ t u, exec (.addbImm (loByte w)) s = .next t ∧ exec (.adcaImm (hiByte w)) t = .next u ∧
      u.d = s.d + w ∧ u.ccr.c = (addFlags s.d w false).c ∧ u.ccr.v = (addFlags s.d w false).v ∧
      u.ccr.n = (addFlags s.d w false).n) ∧
    (∃ t u, exec (.subbImm (loByte w)) s = .next t ∧ exec (.sbcaImm (hiByte w)) t = .next u ∧
      u.d = s.d - w ∧ u.ccr.c = (subFlags s.d w false).c ∧ u.ccr.v = (subFlags s.d w false).v ∧
      u.ccr.n = (subFlags s.d w false).n)

/-! ## Column 0: control -/

/-- NOP does nothing, STOP ends the run, WAIT suspends fetching (R141, R142, R205, R365, R366; decision D29, log 11 and log
12). CLV, SEV, CLC, SEC, CLI and SEI change their one flag; CLI also lets recognition come one instruction late (R145 to
R150, R353; the Motorola meanings, log 28 and log 9). -/
def Obligations.ControlInstructionResults : Prop :=
  Inherent .nop 0x00 (fun s => s) ∧
  Inherent .stop 0x01 (fun s => { s with run := .stopped }) ∧
  Inherent .wait 0x2E (fun s => { s with run := .waiting }) ∧
  Inherent .clv 0x0A (fun s => { s with ccr := { s.ccr with v := false } }) ∧
  Inherent .sev 0x0B (fun s => { s with ccr := { s.ccr with v := true } }) ∧
  Inherent .clc 0x0C (fun s => { s with ccr := { s.ccr with c := false } }) ∧
  Inherent .sec 0x0D (fun s => { s with ccr := { s.ccr with c := true } }) ∧
  Inherent .cli 0x0E (fun s => { s with ccr := { s.ccr with i := false }, irqLag := true }) ∧
  Inherent .sei 0x0F (fun s => { s with ccr := { s.ccr with i := true } })

/-- MUL: D is the unsigned product of A and B, which always fits (R144; that the CCR is unchanged is decision D14, log 19).
IDIV: for a divisor that is not zero, A is the quotient and B the remainder, unsigned; for zero, both are some value (R143;
decision D15, log 18). Hidden is left at some value (R45, log 19), and nothing else changes. -/
def Obligations.MulAndIdivResults : Prop :=
  (encode .mul = [0x09] ∧ ∀ s : State, ∃ h p, p.toNat = s.a.toNat * s.b.toNat ∧
    exec .mul s = .next { s with a := hiByte p, b := loByte p, hidden := h, draws := s.draws + 1 }) ∧
  (encode .idiv = [0x08] ∧ ∀ s : State,
    (s.b ≠ 0 → ∃ h q r, s.a.toNat = s.b.toNat * q.toNat + r.toNat ∧ r.toNat < s.b.toNat ∧
      exec .idiv s = .next { s with a := q, b := r, hidden := h, draws := s.draws + 1 }) ∧
    (s.b = 0 → ∃ h q r, exec .idiv s = .next { s with a := q, b := r, hidden := h, draws := s.draws + 3 }))

/-! ## Branches -/

/-- BHCC to BLT and BLE: fifteen of the branches of column 1, each with its condition (R168 to R181, R183). That a taken branch
adds the offset to the address of the next instruction is R160, the spec's decisions D4 and D7; that 0x11 is BHCS with H = 1
is its resolution of conflict C4 (R161), and the OR of BHI, BLS and BLE is the operator it restores (R161) (log 28). -/
def Obligations.ColumnOneBranches : Prop :=
  Branches .bhcc 0x10 (fun s => s.ccr.h = false) ∧
  Branches .bhcs 0x11 (fun s => s.ccr.h = true) ∧
  Branches .bhi 0x12 (fun s => (s.ccr.c || s.ccr.z) = false) ∧
  Branches .bls 0x13 (fun s => (s.ccr.c || s.ccr.z) = true) ∧
  Branches .bcc 0x14 (fun s => s.ccr.c = false) ∧
  Branches .bcs 0x15 (fun s => s.ccr.c = true) ∧
  Branches .bne 0x16 (fun s => s.ccr.z = false) ∧
  Branches .beq 0x17 (fun s => s.ccr.z = true) ∧
  Branches .bvc 0x18 (fun s => s.ccr.v = false) ∧
  Branches .bvs 0x19 (fun s => s.ccr.v = true) ∧
  Branches .bpl 0x1A (fun s => s.ccr.n = false) ∧
  Branches .bmi 0x1B (fun s => s.ccr.n = true) ∧
  Branches .bge 0x1C (fun s => xor s.ccr.n s.ccr.v = false) ∧
  Branches .blt 0x1D (fun s => xor s.ccr.n s.ccr.v = true) ∧
  Branches .ble 0x1F (fun s => (s.ccr.z || xor s.ccr.n s.ccr.v) = true)

/-- The ten conditions that the source's table prints whole, each with its opcode (R172 to R181): the branch is taken, as BRA
is, exactly where its condition holds on the CCR, and else passed over, as BRN is. Nothing is said of the target. -/
def Obligations.ConditionsOfTheSourceTable : Prop :=
  BranchesLikeBra .bcc 0x14 (fun f => f.c = false) ∧
  BranchesLikeBra .bcs 0x15 (fun f => f.c = true) ∧
  BranchesLikeBra .bne 0x16 (fun f => f.z = false) ∧
  BranchesLikeBra .beq 0x17 (fun f => f.z = true) ∧
  BranchesLikeBra .bvc 0x18 (fun f => f.v = false) ∧
  BranchesLikeBra .bvs 0x19 (fun f => f.v = true) ∧
  BranchesLikeBra .bpl 0x1A (fun f => f.n = false) ∧
  BranchesLikeBra .bmi 0x1B (fun f => f.n = true) ∧
  BranchesLikeBra .bge 0x1C (fun f => xor f.n f.v = false) ∧
  BranchesLikeBra .blt 0x1D (fun f => xor f.n f.v = true)

/-- BRN, BRA, BIL, BIH and BGT, with the spec's own readings: the operand of the column 0 branches (decision D7), I as the
CCR's mask (decision D20), and BGT's corrected condition (R182, from R184) (R164 to R167, R182; log 28). -/
def Obligations.ColumnZeroBranchesAndBgt : Prop :=
  (∀ rel, encode (.brn rel) = [0x04, rel] ∧ ∀ s : State, exec (.brn rel) s = .next s) ∧
  (∀ rel, encode (.bra rel) = [0x05, rel] ∧ ∀ s : State,
    exec (.bra rel) s = .next { s with pc := s.pc + rel.signExtend 16 }) ∧
  Branches .bil 0x06 (fun s => s.ccr.i = false) ∧
  Branches .bih 0x07 (fun s => s.ccr.i = true) ∧
  Branches .bgt 0x1E (fun s => (s.ccr.z || xor s.ccr.n s.ccr.v) = false)

/-- DABNZ and DBBNZ: decrement with the flags of DEC, C kept, and branch if the result is not zero (R162, R163; decision D19,
log 28). -/
def Obligations.DecrementAndBranch : Prop :=
  (∀ rel, encode (.dabnz rel) = [0x02, rel] ∧ ∀ s : State,
    exec (.dabnz rel) s = .next { s with
      a := s.a - 1
      ccr := incCcr s.ccr (s.a - 1) (decide (s.a - 1 = 0x7F))
      pc := if s.a - 1 = 0 then s.pc else s.pc + rel.signExtend 16 }) ∧
  (∀ rel, encode (.dbbnz rel) = [0x03, rel] ∧ ∀ s : State,
    exec (.dbbnz rel) s = .next { s with
      b := s.b - 1
      ccr := incCcr s.ccr (s.b - 1) (decide (s.b - 1 = 0x7F))
      pc := if s.b - 1 = 0 then s.pc else s.pc + rel.signExtend 16 })

/-! ## Column 2: stack and index register -/

/-- TSX, TXS, INS, DES, INX, DEX, AIS, AIX: 16-bit arithmetic on SP and IX modulo 2^16, no flag written (R191 to R196, R313,
R314; decisions D17 and D18, log 28). -/
def Obligations.IndexAndStackPointerArithmetic : Prop :=
  Inherent .tsx 0x20 (fun s => { s with ix := s.sp + 1 }) ∧
  Inherent .txs 0x21 (fun s => { s with sp := s.ix - 1 }) ∧
  Inherent .ins 0x22 (fun s => { s with sp := s.sp + 1 }) ∧
  Inherent .des 0x23 (fun s => { s with sp := s.sp - 1 }) ∧
  Inherent .inx 0x24 (fun s => { s with ix := s.ix + 1 }) ∧
  Inherent .dex 0x25 (fun s => { s with ix := s.ix - 1 }) ∧
  Imm8 .ais 0x8B (fun v s => { s with sp := s.sp + v.signExtend 16 }) ∧
  Imm8 .aix 0xCB (fun v s => { s with ix := s.ix + v.signExtend 16 })

/-- PSHA, PSHB, PSHX: the first byte stored at SP, a second one below it, and SP below them. PULA, PULB, PULX, RTS: the bytes above SP, high
first, and SP at the last one pulled. No other register and no flag changes (R12, R197 to R203; decision D16, log 28). -/
def Obligations.PushAndPullResults : Prop :=
  (encode .psha = [0x2A] ∧ Stores .psha (fun s => [(s.sp, s.a)]) (fun t => { t with sp := t.sp - 1 })) ∧
  (encode .pshb = [0x2B] ∧ Stores .pshb (fun s => [(s.sp, s.b)]) (fun t => { t with sp := t.sp - 1 })) ∧
  (encode .pshx = [0x27] ∧ Stores .pshx (fun s => pushCells s.ix s) (fun t => { t with sp := t.sp - 2 })) ∧
  (encode .pula = [0x28] ∧ Loads8 .pula (fun s => s.sp + 1) (fun v t => { t with a := v, sp := t.sp + 1 })) ∧
  (encode .pulb = [0x29] ∧ Loads8 .pulb (fun s => s.sp + 1) (fun v t => { t with b := v, sp := t.sp + 1 })) ∧
  (encode .pulx = [0x26] ∧ Loads16 .pulx (fun s => s.sp + 1) (fun _ w t => { t with ix := w, sp := t.sp + 2 })) ∧
  (encode .rts = [0x2C] ∧ Loads16 .rts (fun s => s.sp + 1) (fun _ w t => { t with pc := w, sp := t.sp + 2 }))

/-- RTI: the CCR from the byte at SP + 1, A from the next, IX and PC from the two words above, SP six higher, and recognition
possibly one instruction late where it restores I = 0 (R204, R353, R356; decisions D24 and D26, log 9 and log 28). -/
def Obligations.RtiResult : Prop :=
  encode .rti = [0x2D] ∧ ∀ s : State,
    ((∀ k : Nat, 1 ≤ k → k ≤ 6 → Readable (s.sp + BitVec.ofNat 16 k)) →
      ∃ c x ixh ixl pch pcl t, pullSix s = ([c, x, ixh, ixl, pch, pcl], t) ∧
        exec .rti s = .next { t with
          ccr := Ccr.ofByte c, a := x, ix := joinBytes ixh ixl, pc := joinBytes pch pcl, sp := s.sp + 6
          irqLag := !(Ccr.ofByte c).i }) ∧
    (∀ k : Nat, 1 ≤ k → k ≤ 6 → (∀ j : Nat, 1 ≤ j → j < k → Readable (s.sp + BitVec.ofNat 16 j)) →
      ¬ Readable (s.sp + BitVec.ofNat 16 k) → exec .rti s = .fault (.invalidAccess (s.sp + BitVec.ofNat 16 k)))

/-! ## Read-modify-write -/

/-- NEG, INC, DEC on A, B and memory (R215 to R218, R222 to R227; the Motorola formulas, decision D12, log 28). -/
def Obligations.NegIncDecResults : Prop :=
  OneOperand .nega .negb .negIx .negExt 0x00 (fun m f => (-m, { f with
    c := decide (m ≠ 0), v := decide (m = 0x80), n := (-m).msb, z := decide (m = 0) })) ∧
  OneOperand .inca .incb .incIx .incExt 0x02 (fun m f => (m + 1, incCcr f (m + 1) (decide (m = 0x7F)))) ∧
  OneOperand .deca .decb .decIx .decExt 0x03 (fun m f => (m - 1, incCcr f (m - 1) (decide (m = 0x80))))

/-- LSR, ROR, ASR, LSL, ROL on A, B and memory: one place, C the bit shifted out, V the exclusive or of N and C (R228 to R242;
the Motorola formulas, decision D12, log 28). -/
def Obligations.ShiftAndRotateResults : Prop :=
  OneOperand .lsra .lsrb .lsrIx .lsrExt 0x04 (fun m f => (m >>> 1, shiftCcr f (m >>> 1) (m.getLsbD 0))) ∧
  OneOperand .rora .rorb .rorIx .rorExt 0x05 (fun m f =>
    let r := (m >>> 1) ||| (if f.c then 0x80 else 0)
    (r, shiftCcr f r (m.getLsbD 0))) ∧
  OneOperand .asra .asrb .asrIx .asrExt 0x06 (fun m f => (m.sshiftRight 1, shiftCcr f (m.sshiftRight 1) (m.getLsbD 0))) ∧
  OneOperand .lsla .lslb .lslIx .lslExt 0x07 (fun m f => (m + m, shiftCcr f (m + m) (m.getLsbD 7))) ∧
  OneOperand .rola .rolb .rolIx .rolExt 0x08 (fun m f =>
    let r := m + m + (if f.c then 1 else 0)
    (r, shiftCcr f r (m.getLsbD 7)))

/-- CLR on A, B and memory: zero, with V and N cleared and Z set; memory is written and not read (R219 to R221; that C is kept
is the spec's decision D41, log 28). -/
def Obligations.ClrResults : Prop :=
  Inherent .clra 0x31 (fun s => { s with a := 0, ccr := logicCcr s.ccr (0 : Byte) }) ∧
  Inherent .clrb 0x41 (fun s => { s with b := 0, ccr := logicCcr s.ccr (0 : Byte) }) ∧
  (∀ off, encode (.clrIx off) = [0x51, off] ∧
    Stores (.clrIx off) (fun s => [(ixAddr off s, 0)]) (fun t => { t with ccr := logicCcr t.ccr (0 : Byte) })) ∧
  (∀ ad, encode (.clrExt ad) = [0x61, hiByte ad, loByte ad] ∧
    Stores (.clrExt ad) (fun _ => [(ad, 0)]) (fun t => { t with ccr := logicCcr t.ccr (0 : Byte) }))

/-- TST on A, B and memory: V cleared, N and Z from the byte, nothing written back; on an MM register it is refused (R243
to R245, U-21; that C is kept is the spec's decision D41, log 14 and log 28). -/
def Obligations.TstResults : Prop :=
  Inherent .tsta 0x39 (fun s => { s with ccr := logicCcr s.ccr s.a }) ∧
  Inherent .tstb 0x49 (fun s => { s with ccr := logicCcr s.ccr s.b }) ∧
  (∀ off, encode (.tstIx off) = [0x59, off] ∧ Tests8 (.tstIx off) (ixAddr off)) ∧
  (∀ ad, encode (.tstExt ad) = [0x69, hiByte ad, loByte ad] ∧ Tests8 (.tstExt ad) (fun _ => ad))

/-! ## Accumulators, bits, MOV and JMP -/

/-- TDX, TBA, TAB, SBA, CBA, ABA (R261 to R266; decisions D11, D12 and D23, log 28). -/
def Obligations.AccumulatorTransferAndArithmetic : Prop :=
  Inherent .tdx 0x3A (fun s => { s with ix := joinBytes s.a s.b, ccr := logicCcr s.ccr (joinBytes s.a s.b) }) ∧
  Inherent .tba 0x3C (fun s => { s with a := s.b, ccr := logicCcr s.ccr s.b }) ∧
  Inherent .tab 0x4C (fun s => { s with b := s.a, ccr := logicCcr s.ccr s.a }) ∧
  Inherent .sba 0x3E (fun s => { s with
    a := (subFlags s.a s.b false).r, ccr := arithCcr s.ccr (subFlags s.a s.b false) }) ∧
  Inherent .cba 0x4E (fun s => { s with ccr := arithCcr s.ccr (subFlags s.a s.b false) }) ∧
  Inherent .aba 0x3F (fun s => { s with
    a := (addFlags s.a s.b false).r, ccr := arithCcr s.ccr (addFlags s.a s.b false) })

/-- BRSET and BRCLR: Z from the selected bits (complemented for BRCLR), C whether a selected bit of the memory byte is 1, and
the branch if Z is 0; memory is not written (R267, R268; decisions D8 and D21, log 28). -/
def Obligations.BitTestBranches : Prop :=
  (∀ off m rel, encode (.brsetIx off m rel) = [0x5A, off, m, rel] ∧
    Loads8 (.brsetIx off m rel) (ixAddr off) (fun x t => { t with
      ccr := { t.ccr with z := decide (x &&& m = 0), c := decide (x &&& m ≠ 0) }
      pc := if x &&& m = 0 then t.pc else t.pc + rel.signExtend 16 })) ∧
  (∀ ad m rel, encode (.brsetExt ad m rel) = [0x6A, hiByte ad, loByte ad, m, rel] ∧
    Loads8 (.brsetExt ad m rel) (fun _ => ad) (fun x t => { t with
      ccr := { t.ccr with z := decide (x &&& m = 0), c := decide (x &&& m ≠ 0) }
      pc := if x &&& m = 0 then t.pc else t.pc + rel.signExtend 16 })) ∧
  (∀ off m rel, encode (.brclrIx off m rel) = [0x5B, off, m, rel] ∧
    Loads8 (.brclrIx off m rel) (ixAddr off) (fun x t => { t with
      ccr := { t.ccr with z := decide (~~~x &&& m = 0), c := decide (x &&& m ≠ 0) }
      pc := if ~~~x &&& m = 0 then t.pc else t.pc + rel.signExtend 16 })) ∧
  (∀ ad m rel, encode (.brclrExt ad m rel) = [0x6B, hiByte ad, loByte ad, m, rel] ∧
    Loads8 (.brclrExt ad m rel) (fun _ => ad) (fun x t => { t with
      ccr := { t.ccr with z := decide (~~~x &&& m = 0), c := decide (x &&& m ≠ 0) }
      pc := if ~~~x &&& m = 0 then t.pc else t.pc + rel.signExtend 16 }))

/-- BCLR and BSET: the memory byte with the selected bits cleared or set, and the flags of the logic group (R269, R270;
decisions D8 and D22). MOV stores its data byte with those flags (R271; decision D9). JMP goes to its effective address and
reads nothing there (R272; decision D11). All log 28. -/
def Obligations.BitClearSetMovAndJmpResults : Prop :=
  (∀ off m, encode (.bclrIx off m) = [0x5C, off, m] ∧
    Modifies8 (.bclrIx off m) (ixAddr off) (fun x f => (x &&& ~~~m, logicCcr f (x &&& ~~~m)))) ∧
  (∀ ad m, encode (.bclrExt ad m) = [0x6C, hiByte ad, loByte ad, m] ∧
    Modifies8 (.bclrExt ad m) (fun _ => ad) (fun x f => (x &&& ~~~m, logicCcr f (x &&& ~~~m)))) ∧
  (∀ off m, encode (.bsetIx off m) = [0x5D, off, m] ∧
    Modifies8 (.bsetIx off m) (ixAddr off) (fun x f => (x ||| m, logicCcr f (x ||| m)))) ∧
  (∀ ad m, encode (.bsetExt ad m) = [0x6D, hiByte ad, loByte ad, m] ∧
    Modifies8 (.bsetExt ad m) (fun _ => ad) (fun x f => (x ||| m, logicCcr f (x ||| m)))) ∧
  (∀ off m, encode (.movIx off m) = [0x5E, off, m] ∧
    Stores (.movIx off m) (fun s => [(ixAddr off s, m)]) (fun t => { t with ccr := logicCcr t.ccr m })) ∧
  (∀ ad m, encode (.movExt ad m) = [0x6E, hiByte ad, loByte ad, m] ∧
    Stores (.movExt ad m) (fun _ => [(ad, m)]) (fun t => { t with ccr := logicCcr t.ccr m })) ∧
  (∀ off, encode (.jmpIx off) = [0x5F, off] ∧ ∀ s : State, exec (.jmpIx off) s = .next { s with pc := ixAddr off s }) ∧
  (∀ ad, encode (.jmpExt ad) = [0x6F, hiByte ad, loByte ad] ∧ ∀ s : State, exec (.jmpExt ad) s = .next { s with pc := ad })

/-! ## 8-bit register and memory -/

/-- SUB, SBC, ADD, ADC and CMP on A and on B in every form: the result of SUB_8 or ADD_8 and its flags V, N, Z and C, H and I
kept (R280 to R283, R288, R289, R292 to R294, R299, R300; decisions D3, D5, D11 and D12, log 20 and log 28). -/
def Obligations.EightBitArithmeticResults : Prop :=
  OnA .subaIxp .subaImm .subaDir .subaIx .subaExt 0x00 (fun v s => { s with
    a := (subFlags s.a v false).r, ccr := arithCcr s.ccr (subFlags s.a v false) }) ∧
  OnA .sbcaIxp .sbcaImm .sbcaDir .sbcaIx .sbcaExt 0x01 (fun v s => { s with
    a := (subFlags s.a v s.ccr.c).r, ccr := arithCcr s.ccr (subFlags s.a v s.ccr.c) }) ∧
  OnA .addaIxp .addaImm .addaDir .addaIx .addaExt 0x02 (fun v s => { s with
    a := (addFlags s.a v false).r, ccr := arithCcr s.ccr (addFlags s.a v false) }) ∧
  OnA .adcaIxp .adcaImm .adcaDir .adcaIx .adcaExt 0x07 (fun v s => { s with
    a := (addFlags s.a v s.ccr.c).r, ccr := arithCcr s.ccr (addFlags s.a v s.ccr.c) }) ∧
  OnA .cmpaIxp .cmpaImm .cmpaDir .cmpaIx .cmpaExt 0x08 (fun v s => { s with
    ccr := arithCcr s.ccr (subFlags s.a v false) }) ∧
  OnB .subbImm .subbDir .subbIx .subbExt 0x00 (fun v s => { s with
    b := (subFlags s.b v false).r, ccr := arithCcr s.ccr (subFlags s.b v false) }) ∧
  OnB .sbcbImm .sbcbDir .sbcbIx .sbcbExt 0x01 (fun v s => { s with
    b := (subFlags s.b v s.ccr.c).r, ccr := arithCcr s.ccr (subFlags s.b v s.ccr.c) }) ∧
  OnB .addbImm .addbDir .addbIx .addbExt 0x02 (fun v s => { s with
    b := (addFlags s.b v false).r, ccr := arithCcr s.ccr (addFlags s.b v false) }) ∧
  OnB .adcbImm .adcbDir .adcbIx .adcbExt 0x07 (fun v s => { s with
    b := (addFlags s.b v s.ccr.c).r, ccr := arithCcr s.ccr (addFlags s.b v s.ccr.c) }) ∧
  OnB .cmpbImm .cmpbDir .cmpbIx .cmpbExt 0x08 (fun v s => { s with
    ccr := arithCcr s.ccr (subFlags s.b v false) })

/-- AND, LDA, ORA, EOR on A and on B and BIT on A in every form: the result and the flags V (cleared), N and Z, C, H and I
kept (R280, R284 to R287, R290, R295 to R298; decisions D3, D5, D11 and D12, log 20 and log 28). -/
def Obligations.EightBitLogicResults : Prop :=
  OnA .andaIxp .andaImm .andaDir .andaIx .andaExt 0x03 (fun v s => { s with
    a := s.a &&& v, ccr := logicCcr s.ccr (s.a &&& v) }) ∧
  OnA .ldaaIxp .ldaaImm .ldaaDir .ldaaIx .ldaaExt 0x04 (fun v s => { s with a := v, ccr := logicCcr s.ccr v }) ∧
  OnA .oraaIxp .oraaImm .oraaDir .oraaIx .oraaExt 0x05 (fun v s => { s with
    a := s.a ||| v, ccr := logicCcr s.ccr (s.a ||| v) }) ∧
  OnA .eoraIxp .eoraImm .eoraDir .eoraIx .eoraExt 0x06 (fun v s => { s with
    a := s.a ^^^ v, ccr := logicCcr s.ccr (s.a ^^^ v) }) ∧
  OnA .bitaIxp .bitaImm .bitaDir .bitaIx .bitaExt 0x09 (fun v s => { s with ccr := logicCcr s.ccr (s.a &&& v) }) ∧
  OnB .andbImm .andbDir .andbIx .andbExt 0x03 (fun v s => { s with
    b := s.b &&& v, ccr := logicCcr s.ccr (s.b &&& v) }) ∧
  OnB .ldabImm .ldabDir .ldabIx .ldabExt 0x04 (fun v s => { s with b := v, ccr := logicCcr s.ccr v }) ∧
  OnB .orabImm .orabDir .orabIx .orabExt 0x05 (fun v s => { s with
    b := s.b ||| v, ccr := logicCcr s.ccr (s.b ||| v) }) ∧
  OnB .eorbImm .eorbDir .eorbIx .eorbExt 0x06 (fun v s => { s with
    b := s.b ^^^ v, ccr := logicCcr s.ccr (s.b ^^^ v) })

/-- STAA and STAB in every form: the accumulator stored, with the flags of the logic group from it; IX+ then advances IX by
one (R280, R291, R301; decisions D5 and D11, log 20 and log 28). -/
def Obligations.EightBitStoreResults : Prop :=
  (encode (.staaIxp none) = [0x7A] ∧
    Stores (.staaIxp none) (fun s => [(s.ix, s.a)]) (fun t => advanceIx 1 { t with ccr := logicCcr t.ccr t.a })) ∧
  Stores8 .staaDir .staaIx .staaExt 0x9A 0xAA 0xBA (fun s => s.a) (fun t => { t with ccr := logicCcr t.ccr t.a }) ∧
  Stores8 .stabDir .stabIx .stabExt 0xDA 0xEA 0xFA (fun s => s.b) (fun t => { t with ccr := logicCcr t.ccr t.b })

/-! ## 16-bit register and memory, calls -/

/-- SUBD, ADDD, CPD, CPX in every form: the result of SUB_16 or ADD_16, V, N, Z and C of it, H some value, I kept (R310, R318,
R321 to R323; decisions D12 and D13, P_C1_ALT at its default, log 17, log 20, log 21 and log 28). -/
def Obligations.SixteenBitArithmeticResults : Prop :=
  Ixp16 .subdIxp 0x7D (fun h w s => { s with
    a := hiByte (subFlags (joinBytes s.a s.b) w false).r, b := loByte (subFlags (joinBytes s.a s.b) w false).r
    ccr := { arithCcr s.ccr (subFlags (joinBytes s.a s.b) w false) with h := h }, draws := s.draws + 1 }) ∧
  On16 .subdImm .subdDir .subdIx .subdExt 0x8E 0x9E 0xAE 0xBE (fun h w s => { s with
    a := hiByte (subFlags (joinBytes s.a s.b) w false).r, b := loByte (subFlags (joinBytes s.a s.b) w false).r
    ccr := { arithCcr s.ccr (subFlags (joinBytes s.a s.b) w false) with h := h }, draws := s.draws + 1 }) ∧
  Ixp16 .adddIxp 0x7F (fun h w s => { s with
    a := hiByte (addFlags (joinBytes s.a s.b) w false).r, b := loByte (addFlags (joinBytes s.a s.b) w false).r
    ccr := { arithCcr s.ccr (addFlags (joinBytes s.a s.b) w false) with h := h }, draws := s.draws + 1 }) ∧
  On16 .adddImm .adddDir .adddIx .adddExt 0x8F 0x9F 0xAF 0xBF (fun h w s => { s with
    a := hiByte (addFlags (joinBytes s.a s.b) w false).r, b := loByte (addFlags (joinBytes s.a s.b) w false).r
    ccr := { arithCcr s.ccr (addFlags (joinBytes s.a s.b) w false) with h := h }, draws := s.draws + 1 }) ∧
  Ixp16 .cpdIxp 0x7E (fun h w s => { s with
    ccr := { arithCcr s.ccr (subFlags (joinBytes s.a s.b) w false) with h := h }, draws := s.draws + 1 }) ∧
  On16 .cpdImm .cpdDir .cpdIx .cpdExt 0xCE 0xDE 0xEE 0xFE (fun h w s => { s with
    ccr := { arithCcr s.ccr (subFlags (joinBytes s.a s.b) w false) with h := h }, draws := s.draws + 1 }) ∧
  On16 .cpxImm .cpxDir .cpxIx .cpxExt 0xCC 0xDC 0xEC 0xFC (fun h w s => { s with
    ccr := { arithCcr s.ccr (subFlags s.ix w false) with h := h }, draws := s.draws + 1 })

/-- LDS, LDX, LDD in every form: the word loaded; STS, STX, STD in every form: the word stored high byte first. V cleared, N
and Z from the word, C, H and I kept (R310, R315 to R317, R319, R320, R324; decisions D6, D11 and D33, log 28). -/
def Obligations.SixteenBitLoadAndStoreResults : Prop :=
  On16 .ldsImm .ldsDir .ldsIx .ldsExt 0x8D 0x9D 0xAD 0xBD (fun _ w s => { s with sp := w, ccr := logicCcr s.ccr w }) ∧
  On16 .ldxImm .ldxDir .ldxIx .ldxExt 0xCD 0xDD 0xED 0xFD (fun _ w s => { s with ix := w, ccr := logicCcr s.ccr w }) ∧
  On16 .lddImm .lddDir .lddIx .lddExt 0xCF 0xDF 0xEF 0xFF (fun _ w s => { s with
    a := hiByte w, b := loByte w, ccr := logicCcr s.ccr w }) ∧
  Stores16 .stsDir .stsIx .stsExt 0x9B 0xAB 0xBB (fun s => s.sp) (fun t => { t with ccr := logicCcr t.ccr t.sp }) ∧
  Stores16 .stxDir .stxIx .stxExt 0xDB 0xEB 0xFB (fun s => s.ix) (fun t => { t with ccr := logicCcr t.ccr t.ix }) ∧
  Stores16 .stdDir .stdIx .stdExt 0x9C 0xAC 0xBC (fun s => joinBytes s.a s.b)
    (fun t => { t with ccr := logicCcr t.ccr (joinBytes t.a t.b) })

/-- BSR and JSR: the address of the next instruction pushed, low byte first, and PC at the target, computed before the push
(R311, R312; decisions D7, D16 and D43, log 28). -/
def Obligations.CallResults : Prop :=
  (∀ rel, encode (.bsr rel) = [0xC9, rel] ∧
    Stores (.bsr rel) (fun s => pushCells s.pc s) (fun t => { t with sp := t.sp - 2, pc := t.pc + rel.signExtend 16 })) ∧
  (∀ d, encode (.jsrDir d) = [0xD9, d] ∧
    Stores (.jsrDir d) (fun s => pushCells s.pc s) (fun t => { t with sp := t.sp - 2, pc := dirAddr d })) ∧
  (∀ off, encode (.jsrIx off) = [0xE9, off] ∧
    Stores (.jsrIx off) (fun s => pushCells s.pc s) (fun t => { t with sp := t.sp - 2, pc := ixAddr off t })) ∧
  (∀ ad, encode (.jsrExt ad) = [0xF9, hiByte ad, loByte ad] ∧
    Stores (.jsrExt ad) (fun s => pushCells s.pc s) (fun t => { t with sp := t.sp - 2, pc := ad }))

/-- RTS undoes BSR and JSR in each of its forms, and PULX undoes PSHX (R197, R203, R312; decisions D16 and D43, log 28). -/
def Obligations.ReturnsUndoCalls : Prop :=
  ∀ s : State, 1 ≤ s.sp.toNat → InRam s.sp →
    (∀ ad, ∃ t u, exec (.jsrExt ad) s = .next t ∧ t.pc = ad ∧ exec .rts t = .next u ∧
      u.pc = s.pc ∧ u.sp = s.sp ∧ u.a = s.a ∧ u.b = s.b ∧ u.ix = s.ix ∧ u.ccr = s.ccr) ∧
    (∀ d, ∃ t u, exec (.jsrDir d) s = .next t ∧ t.pc = dirAddr d ∧ exec .rts t = .next u ∧
      u.pc = s.pc ∧ u.sp = s.sp ∧ u.a = s.a ∧ u.b = s.b ∧ u.ix = s.ix ∧ u.ccr = s.ccr) ∧
    (∀ off, ∃ t u, exec (.jsrIx off) s = .next t ∧ t.pc = ixAddr off s ∧ exec .rts t = .next u ∧
      u.pc = s.pc ∧ u.sp = s.sp ∧ u.a = s.a ∧ u.b = s.b ∧ u.ix = s.ix ∧ u.ccr = s.ccr) ∧
    (∀ rel, ∃ t u, exec (.bsr rel) s = .next t ∧ t.pc = s.pc + rel.signExtend 16 ∧ exec .rts t = .next u ∧
      u.pc = s.pc ∧ u.sp = s.sp ∧ u.a = s.a ∧ u.b = s.b ∧ u.ix = s.ix ∧ u.ccr = s.ccr) ∧
    (∃ t u, exec .pshx s = .next t ∧ exec .pulx t = .next u ∧ u.ix = s.ix ∧ u.sp = s.sp ∧ u.pc = s.pc ∧
      u.a = s.a ∧ u.b = s.b ∧ u.ccr = s.ccr)

/-- The source's two examples (R133): "ADDA #10, IX" adds the memory byte at IX + 10 to ACCA, and "INCA" increments it. The
encodings rest on the spec's decisions D1, D2 and D3, the radix of the 10 on D39, and what increment and add mean modulo 256
on D12 (log 28). This is the example as printed, on an operand in RAM; every form and address is in the result statements. -/
def Obligations.SourceExamples : Prop :=
  (encode (.addaIx 10) = [0xA2, 0x0A] ∧ ∀ s : State, InRam (s.ix + 10) →
    ∃ f, exec (.addaIx 10) s = .next { s with a := s.a + s.ram (s.ix + 10), ccr := f }) ∧
  (encode .inca = [0x32] ∧ ∀ s : State, ∃ f, exec .inca s = .next { s with a := s.a + 1, ccr := f })

/-- The stack against the vectors (R401): nothing checks the stack. Pushing two bytes from SP = 0x7FF7 overwrites the SWI
vector, pushing from above 0x7FF7 overwrites the hardware vectors, and a push at any RAM address succeeds (R72). Where a push
writes, SP one lower after it, and the order of the two bytes of IX are the spec's decision D16 (log 28). -/
def Obligations.StackCanOverwriteVectors : Prop :=
  (∀ s : State, s.sp = 0x7FF7 → ∃ t, exec .pshx s = .next t ∧
    joinBytes (t.ram 0x7FF6) (t.ram 0x7FF7) = s.ix) ∧
  (∀ s : State, 0x7FF8 ≤ s.sp.toNat → s.sp.toNat ≤ 0x7FFF → ∃ t, exec .psha s = .next t ∧ t.ram s.sp = s.a) ∧
  (∀ s : State, InRam s.sp → ∃ t, exec .psha s = .next t ∧ t.ram s.sp = s.a ∧ t.sp = s.sp - 1)

/-! ## Frames, over every instruction -/

/-- An instruction changes no byte of RAM but those at the addresses it stores to, no MM register but those (and a count
through TMRCTL), no pending flag but by a store to IRQCTL, and records no output but by a store to an output port (R30, R68,
R80, R81; the registers' addresses are the spec's resolution of conflict C8, log 22, and the output record log 24). The
environment's ticks are never changed by it (log 6), nor are the two opcode registers by its own meaning: in the model the
fetch, the entry and the lookahead load at the step's end change them (DEDUCED, log 26; R45, R402 and R413 have the load
within the instruction). -/
def Obligations.MemoryAndDeviceFrame : Prop :=
  ∀ (i : Instr) (s t : State), exec i s = .next t →
    (∀ a, a ∉ storeAddrs s i → t.ram a = s.ram a) ∧
    ((∀ a ∈ storeAddrs s i, InRam a) → t.dev = s.dev) ∧
    (∀ r, (∀ q ∈ changedBy r, mmAddr q ∉ storeAddrs s i) → held t.dev r = held s.dev r) ∧
    (mmAddr .irqctl ∉ storeAddrs s i →
      t.dev.pendExt1 = s.dev.pendExt1 ∧ t.dev.pendExt2 = s.dev.pendExt2 ∧ t.dev.pendT1 = s.dev.pendT1 ∧
        t.dev.pendT2 = s.dev.pendT2) ∧
    (mmAddr .out1 ∉ storeAddrs s i → mmAddr .out2 ∉ storeAddrs s i → t.dev.outputs = s.dev.outputs) ∧
    t.env = s.env ∧ t.opcode = s.opcode ∧ t.ccrOpcode = s.ccrOpcode ∧
    (i ≠ .stop → i ≠ .wait → t.run = s.run)

/-- An instruction writes no flag outside its group (R31, R32; the assignment is the spec's decision D11 with D14, D15, D18,
D19, D22 and D23, log 28). -/
def Obligations.FlagFrame : Prop :=
  ∀ (i : Instr) (s t : State), exec i s = .next t → ∀ f, f ∉ flagsWritten i → flag t.ccr f = flag s.ccr f

/-- An instruction writes no register but those its rule names (40_control_inherent.md to 46_regmem_16bit_subroutine.md, each
instruction's rule; R110 for IX in the IX+ forms). -/
def Obligations.RegisterFrame : Prop :=
  ∀ (i : Instr) (s t : State), exec i s = .next t → ∀ r, r ∉ regsWritten i → reg t r = reg s r
end

