-- ==== Sys2Proof/Laws/Bits.lean ====
section
/-! SUPPORT. Splitting a word into bytes and joining them, and setting a bit. -/

namespace Sys2Proof

@[simp] theorem joinBytes_hi_lo (w : Word) : joinBytes (hiByte w) (loByte w) = w := by
  unfold joinBytes hiByte loByte
  ext i hi
  simp only [BitVec.getElem_append, BitVec.getElem_extractLsb']
  split
  · simp [BitVec.getLsbD_eq_getElem (by omega : i < 16)]
  · rw [show 8 + (i - 8) = i by omega, BitVec.getLsbD_eq_getElem (by omega)]

@[simp] theorem hiByte_joinBytes (h l : Byte) : hiByte (joinBytes h l) = h := by
  have e : joinBytes h l = (h ++ l : BitVec (8 + 8)) := rfl
  unfold hiByte
  rw [e]
  ext i hi
  simp only [BitVec.getElem_extractLsb', BitVec.getLsbD_append]
  simp [BitVec.getLsbD_eq_getElem hi]

@[simp] theorem loByte_joinBytes (h l : Byte) : loByte (joinBytes h l) = l := by
  have e : joinBytes h l = (h ++ l : BitVec (8 + 8)) := rfl
  unfold loByte
  rw [e]
  ext i hi
  simp only [BitVec.getElem_extractLsb', BitVec.getLsbD_append]
  simp [hi]

/-- A bit of a byte after one bit is set. -/
theorem getLsbD_setBit {k : Nat} (hk : k < 8) (b : Bool) (x : Byte) (j : Nat) :
    (setBit k b x).getLsbD j = if j = k then b else x.getLsbD j := by
  unfold setBit
  by_cases hj : j = k
  · subst hj; cases b <;> simp [hk]
  · by_cases h8 : j < 8
    · cases b <;> simp [hj, h8] <;> intros <;> omega
    · simp [hj, BitVec.getLsbD_of_ge _ _ (not_lt.mp h8)]

end Sys2Proof
end

