-- ==== Sys2Proof/Laws/Params.lean ====
section
/-! SUPPORT. The parameters at their values, one lemma per field, and what the operations that read P_IRQ_POLARITY are there. -/

namespace Sys2Proof

@[simp] theorem params_ixpOffset : params.ixpOffset = false := rfl
@[simp] theorem params_ixpStep (n : Nat) : params.ixpStep n = BitVec.ofNat 16 n := rfl
@[simp] theorem params_ccrLayout : params.ccrLayout = { h := 5, i := 4, n := 3, z := 2, v := 1, c := 0 } := rfl
@[simp] theorem params_mulCcr (f : Machine.Ccr) (a b : Byte) : params.mulCcr f a b = f := rfl
@[simp] theorem params_idiv (a b : Byte) : params.idiv a b = (a / b, a % b) := rfl
@[simp] theorem params_idivCcr (f : Machine.Ccr) (a b : Byte) : params.idivCcr f a b = f := rfl
@[simp] theorem params_brbitC (m mask : Byte) : params.brbitC m mask = decide (m &&& mask ≠ 0) := rfl
@[simp] theorem params_irqPolarity :
    params.irqPolarity =
      { enable := true, reset := true, timerEnable := true, timerReset := true, selfClearing := true } := rfl
@[simp] theorem params_resetPc : params.resetPc = 0x0100 := rfl
@[simp] theorem params_c1Alt : params.c1Alt = false := rfl
@[simp] theorem params_c8Alt : params.c8Alt = false := rfl

namespace Machine

@[simp] theorem irqEnables_eq (v : Byte) (k : Nat) : irqEnables v k = v.getLsbD k := by simp [irqEnables]
@[simp] theorem irqResets_eq (v : Byte) (k : Nat) : irqResets v k = v.getLsbD k := by simp [irqResets]
@[simp] theorem timerEnables_eq (v : Byte) (k : Nat) : timerEnables v k = v.getLsbD k := by simp [timerEnables]
@[simp] theorem timerResets_eq (v : Byte) (k : Nat) : timerResets v k = v.getLsbD k := by simp [timerResets]
@[simp] theorem Devices.irqHeld_eq (d : Devices) (k : Nat) : d.irqHeld k = false := by simp [Devices.irqHeld]
@[simp] theorem Devices.timerHeld_eq (d : Devices) (k : Nat) : d.timerHeld k = false := by simp [Devices.timerHeld]

end Machine

end Sys2Proof
end

