-- ==== Sys2Proof/Laws/State.lean ====
section
/-! SUPPORT. One lemma per field per update of State, each true by rfl, so that no proof unfolds a record update. -/

namespace Sys2Proof.Machine

@[simp] theorem State.a_setA (s : State) (v : Byte) : (s.setA v).a = v := rfl
@[simp] theorem State.b_setA (s : State) (v : Byte) : (s.setA v).b = s.b := rfl
@[simp] theorem State.ix_setA (s : State) (v : Byte) : (s.setA v).ix = s.ix := rfl
@[simp] theorem State.sp_setA (s : State) (v : Byte) : (s.setA v).sp = s.sp := rfl
@[simp] theorem State.pc_setA (s : State) (v : Byte) : (s.setA v).pc = s.pc := rfl
@[simp] theorem State.ccr_setA (s : State) (v : Byte) : (s.setA v).ccr = s.ccr := rfl
@[simp] theorem State.mem_setA (s : State) (v : Byte) : (s.setA v).mem = s.mem := rfl
@[simp] theorem State.dev_setA (s : State) (v : Byte) : (s.setA v).dev = s.dev := rfl
@[simp] theorem State.run_setA (s : State) (v : Byte) : (s.setA v).run = s.run := rfl
@[simp] theorem State.opcode_setA (s : State) (v : Byte) : (s.setA v).opcode = s.opcode := rfl
@[simp] theorem State.ccrOpcode_setA (s : State) (v : Byte) : (s.setA v).ccrOpcode = s.ccrOpcode := rfl
@[simp] theorem State.hidden_setA (s : State) (v : Byte) : (s.setA v).hidden = s.hidden := rfl
@[simp] theorem State.stores_setA (s : State) (v : Byte) : (s.setA v).stores = s.stores := rfl
@[simp] theorem State.irqLag_setA (s : State) (v : Byte) : (s.setA v).irqLag = s.irqLag := rfl
@[simp] theorem State.env_setA (s : State) (v : Byte) : (s.setA v).env = s.env := rfl
@[simp] theorem State.draws_setA (s : State) (v : Byte) : (s.setA v).draws = s.draws := rfl

@[simp] theorem State.a_setB (s : State) (v : Byte) : (s.setB v).a = s.a := rfl
@[simp] theorem State.b_setB (s : State) (v : Byte) : (s.setB v).b = v := rfl
@[simp] theorem State.ix_setB (s : State) (v : Byte) : (s.setB v).ix = s.ix := rfl
@[simp] theorem State.sp_setB (s : State) (v : Byte) : (s.setB v).sp = s.sp := rfl
@[simp] theorem State.pc_setB (s : State) (v : Byte) : (s.setB v).pc = s.pc := rfl
@[simp] theorem State.ccr_setB (s : State) (v : Byte) : (s.setB v).ccr = s.ccr := rfl
@[simp] theorem State.mem_setB (s : State) (v : Byte) : (s.setB v).mem = s.mem := rfl
@[simp] theorem State.dev_setB (s : State) (v : Byte) : (s.setB v).dev = s.dev := rfl
@[simp] theorem State.run_setB (s : State) (v : Byte) : (s.setB v).run = s.run := rfl
@[simp] theorem State.opcode_setB (s : State) (v : Byte) : (s.setB v).opcode = s.opcode := rfl
@[simp] theorem State.ccrOpcode_setB (s : State) (v : Byte) : (s.setB v).ccrOpcode = s.ccrOpcode := rfl
@[simp] theorem State.hidden_setB (s : State) (v : Byte) : (s.setB v).hidden = s.hidden := rfl
@[simp] theorem State.stores_setB (s : State) (v : Byte) : (s.setB v).stores = s.stores := rfl
@[simp] theorem State.irqLag_setB (s : State) (v : Byte) : (s.setB v).irqLag = s.irqLag := rfl
@[simp] theorem State.env_setB (s : State) (v : Byte) : (s.setB v).env = s.env := rfl
@[simp] theorem State.draws_setB (s : State) (v : Byte) : (s.setB v).draws = s.draws := rfl

@[simp] theorem State.a_setIx (s : State) (v : Word) : (s.setIx v).a = s.a := rfl
@[simp] theorem State.b_setIx (s : State) (v : Word) : (s.setIx v).b = s.b := rfl
@[simp] theorem State.ix_setIx (s : State) (v : Word) : (s.setIx v).ix = v := rfl
@[simp] theorem State.sp_setIx (s : State) (v : Word) : (s.setIx v).sp = s.sp := rfl
@[simp] theorem State.pc_setIx (s : State) (v : Word) : (s.setIx v).pc = s.pc := rfl
@[simp] theorem State.ccr_setIx (s : State) (v : Word) : (s.setIx v).ccr = s.ccr := rfl
@[simp] theorem State.mem_setIx (s : State) (v : Word) : (s.setIx v).mem = s.mem := rfl
@[simp] theorem State.dev_setIx (s : State) (v : Word) : (s.setIx v).dev = s.dev := rfl
@[simp] theorem State.run_setIx (s : State) (v : Word) : (s.setIx v).run = s.run := rfl
@[simp] theorem State.opcode_setIx (s : State) (v : Word) : (s.setIx v).opcode = s.opcode := rfl
@[simp] theorem State.ccrOpcode_setIx (s : State) (v : Word) : (s.setIx v).ccrOpcode = s.ccrOpcode := rfl
@[simp] theorem State.hidden_setIx (s : State) (v : Word) : (s.setIx v).hidden = s.hidden := rfl
@[simp] theorem State.stores_setIx (s : State) (v : Word) : (s.setIx v).stores = s.stores := rfl
@[simp] theorem State.irqLag_setIx (s : State) (v : Word) : (s.setIx v).irqLag = s.irqLag := rfl
@[simp] theorem State.env_setIx (s : State) (v : Word) : (s.setIx v).env = s.env := rfl
@[simp] theorem State.draws_setIx (s : State) (v : Word) : (s.setIx v).draws = s.draws := rfl

@[simp] theorem State.a_setSp (s : State) (v : Word) : (s.setSp v).a = s.a := rfl
@[simp] theorem State.b_setSp (s : State) (v : Word) : (s.setSp v).b = s.b := rfl
@[simp] theorem State.ix_setSp (s : State) (v : Word) : (s.setSp v).ix = s.ix := rfl
@[simp] theorem State.sp_setSp (s : State) (v : Word) : (s.setSp v).sp = v := rfl
@[simp] theorem State.pc_setSp (s : State) (v : Word) : (s.setSp v).pc = s.pc := rfl
@[simp] theorem State.ccr_setSp (s : State) (v : Word) : (s.setSp v).ccr = s.ccr := rfl
@[simp] theorem State.mem_setSp (s : State) (v : Word) : (s.setSp v).mem = s.mem := rfl
@[simp] theorem State.dev_setSp (s : State) (v : Word) : (s.setSp v).dev = s.dev := rfl
@[simp] theorem State.run_setSp (s : State) (v : Word) : (s.setSp v).run = s.run := rfl
@[simp] theorem State.opcode_setSp (s : State) (v : Word) : (s.setSp v).opcode = s.opcode := rfl
@[simp] theorem State.ccrOpcode_setSp (s : State) (v : Word) : (s.setSp v).ccrOpcode = s.ccrOpcode := rfl
@[simp] theorem State.hidden_setSp (s : State) (v : Word) : (s.setSp v).hidden = s.hidden := rfl
@[simp] theorem State.stores_setSp (s : State) (v : Word) : (s.setSp v).stores = s.stores := rfl
@[simp] theorem State.irqLag_setSp (s : State) (v : Word) : (s.setSp v).irqLag = s.irqLag := rfl
@[simp] theorem State.env_setSp (s : State) (v : Word) : (s.setSp v).env = s.env := rfl
@[simp] theorem State.draws_setSp (s : State) (v : Word) : (s.setSp v).draws = s.draws := rfl

@[simp] theorem State.a_setPc (s : State) (v : Word) : (s.setPc v).a = s.a := rfl
@[simp] theorem State.b_setPc (s : State) (v : Word) : (s.setPc v).b = s.b := rfl
@[simp] theorem State.ix_setPc (s : State) (v : Word) : (s.setPc v).ix = s.ix := rfl
@[simp] theorem State.sp_setPc (s : State) (v : Word) : (s.setPc v).sp = s.sp := rfl
@[simp] theorem State.pc_setPc (s : State) (v : Word) : (s.setPc v).pc = v := rfl
@[simp] theorem State.ccr_setPc (s : State) (v : Word) : (s.setPc v).ccr = s.ccr := rfl
@[simp] theorem State.mem_setPc (s : State) (v : Word) : (s.setPc v).mem = s.mem := rfl
@[simp] theorem State.dev_setPc (s : State) (v : Word) : (s.setPc v).dev = s.dev := rfl
@[simp] theorem State.run_setPc (s : State) (v : Word) : (s.setPc v).run = s.run := rfl
@[simp] theorem State.opcode_setPc (s : State) (v : Word) : (s.setPc v).opcode = s.opcode := rfl
@[simp] theorem State.ccrOpcode_setPc (s : State) (v : Word) : (s.setPc v).ccrOpcode = s.ccrOpcode := rfl
@[simp] theorem State.hidden_setPc (s : State) (v : Word) : (s.setPc v).hidden = s.hidden := rfl
@[simp] theorem State.stores_setPc (s : State) (v : Word) : (s.setPc v).stores = s.stores := rfl
@[simp] theorem State.irqLag_setPc (s : State) (v : Word) : (s.setPc v).irqLag = s.irqLag := rfl
@[simp] theorem State.env_setPc (s : State) (v : Word) : (s.setPc v).env = s.env := rfl
@[simp] theorem State.draws_setPc (s : State) (v : Word) : (s.setPc v).draws = s.draws := rfl

@[simp] theorem State.a_setCcr (s : State) (v : Ccr) : (s.setCcr v).a = s.a := rfl
@[simp] theorem State.b_setCcr (s : State) (v : Ccr) : (s.setCcr v).b = s.b := rfl
@[simp] theorem State.ix_setCcr (s : State) (v : Ccr) : (s.setCcr v).ix = s.ix := rfl
@[simp] theorem State.sp_setCcr (s : State) (v : Ccr) : (s.setCcr v).sp = s.sp := rfl
@[simp] theorem State.pc_setCcr (s : State) (v : Ccr) : (s.setCcr v).pc = s.pc := rfl
@[simp] theorem State.ccr_setCcr (s : State) (v : Ccr) : (s.setCcr v).ccr = v := rfl
@[simp] theorem State.mem_setCcr (s : State) (v : Ccr) : (s.setCcr v).mem = s.mem := rfl
@[simp] theorem State.dev_setCcr (s : State) (v : Ccr) : (s.setCcr v).dev = s.dev := rfl
@[simp] theorem State.run_setCcr (s : State) (v : Ccr) : (s.setCcr v).run = s.run := rfl
@[simp] theorem State.opcode_setCcr (s : State) (v : Ccr) : (s.setCcr v).opcode = s.opcode := rfl
@[simp] theorem State.ccrOpcode_setCcr (s : State) (v : Ccr) : (s.setCcr v).ccrOpcode = s.ccrOpcode := rfl
@[simp] theorem State.hidden_setCcr (s : State) (v : Ccr) : (s.setCcr v).hidden = s.hidden := rfl
@[simp] theorem State.stores_setCcr (s : State) (v : Ccr) : (s.setCcr v).stores = s.stores := rfl
@[simp] theorem State.irqLag_setCcr (s : State) (v : Ccr) : (s.setCcr v).irqLag = s.irqLag := rfl
@[simp] theorem State.env_setCcr (s : State) (v : Ccr) : (s.setCcr v).env = s.env := rfl
@[simp] theorem State.draws_setCcr (s : State) (v : Ccr) : (s.setCcr v).draws = s.draws := rfl

@[simp] theorem State.a_setDev (s : State) (v : Devices) : (s.setDev v).a = s.a := rfl
@[simp] theorem State.b_setDev (s : State) (v : Devices) : (s.setDev v).b = s.b := rfl
@[simp] theorem State.ix_setDev (s : State) (v : Devices) : (s.setDev v).ix = s.ix := rfl
@[simp] theorem State.sp_setDev (s : State) (v : Devices) : (s.setDev v).sp = s.sp := rfl
@[simp] theorem State.pc_setDev (s : State) (v : Devices) : (s.setDev v).pc = s.pc := rfl
@[simp] theorem State.ccr_setDev (s : State) (v : Devices) : (s.setDev v).ccr = s.ccr := rfl
@[simp] theorem State.mem_setDev (s : State) (v : Devices) : (s.setDev v).mem = s.mem := rfl
@[simp] theorem State.dev_setDev (s : State) (v : Devices) : (s.setDev v).dev = v := rfl
@[simp] theorem State.run_setDev (s : State) (v : Devices) : (s.setDev v).run = s.run := rfl
@[simp] theorem State.opcode_setDev (s : State) (v : Devices) : (s.setDev v).opcode = s.opcode := rfl
@[simp] theorem State.ccrOpcode_setDev (s : State) (v : Devices) : (s.setDev v).ccrOpcode = s.ccrOpcode := rfl
@[simp] theorem State.hidden_setDev (s : State) (v : Devices) : (s.setDev v).hidden = s.hidden := rfl
@[simp] theorem State.stores_setDev (s : State) (v : Devices) : (s.setDev v).stores = s.stores := rfl
@[simp] theorem State.irqLag_setDev (s : State) (v : Devices) : (s.setDev v).irqLag = s.irqLag := rfl
@[simp] theorem State.env_setDev (s : State) (v : Devices) : (s.setDev v).env = s.env := rfl
@[simp] theorem State.draws_setDev (s : State) (v : Devices) : (s.setDev v).draws = s.draws := rfl

@[simp] theorem State.a_setRun (s : State) (v : RunState) : (s.setRun v).a = s.a := rfl
@[simp] theorem State.b_setRun (s : State) (v : RunState) : (s.setRun v).b = s.b := rfl
@[simp] theorem State.ix_setRun (s : State) (v : RunState) : (s.setRun v).ix = s.ix := rfl
@[simp] theorem State.sp_setRun (s : State) (v : RunState) : (s.setRun v).sp = s.sp := rfl
@[simp] theorem State.pc_setRun (s : State) (v : RunState) : (s.setRun v).pc = s.pc := rfl
@[simp] theorem State.ccr_setRun (s : State) (v : RunState) : (s.setRun v).ccr = s.ccr := rfl
@[simp] theorem State.mem_setRun (s : State) (v : RunState) : (s.setRun v).mem = s.mem := rfl
@[simp] theorem State.dev_setRun (s : State) (v : RunState) : (s.setRun v).dev = s.dev := rfl
@[simp] theorem State.run_setRun (s : State) (v : RunState) : (s.setRun v).run = v := rfl
@[simp] theorem State.opcode_setRun (s : State) (v : RunState) : (s.setRun v).opcode = s.opcode := rfl
@[simp] theorem State.ccrOpcode_setRun (s : State) (v : RunState) : (s.setRun v).ccrOpcode = s.ccrOpcode := rfl
@[simp] theorem State.hidden_setRun (s : State) (v : RunState) : (s.setRun v).hidden = s.hidden := rfl
@[simp] theorem State.stores_setRun (s : State) (v : RunState) : (s.setRun v).stores = s.stores := rfl
@[simp] theorem State.irqLag_setRun (s : State) (v : RunState) : (s.setRun v).irqLag = s.irqLag := rfl
@[simp] theorem State.env_setRun (s : State) (v : RunState) : (s.setRun v).env = s.env := rfl
@[simp] theorem State.draws_setRun (s : State) (v : RunState) : (s.setRun v).draws = s.draws := rfl

@[simp] theorem State.a_setHidden (s : State) (v : Byte) : (s.setHidden v).a = s.a := rfl
@[simp] theorem State.b_setHidden (s : State) (v : Byte) : (s.setHidden v).b = s.b := rfl
@[simp] theorem State.ix_setHidden (s : State) (v : Byte) : (s.setHidden v).ix = s.ix := rfl
@[simp] theorem State.sp_setHidden (s : State) (v : Byte) : (s.setHidden v).sp = s.sp := rfl
@[simp] theorem State.pc_setHidden (s : State) (v : Byte) : (s.setHidden v).pc = s.pc := rfl
@[simp] theorem State.ccr_setHidden (s : State) (v : Byte) : (s.setHidden v).ccr = s.ccr := rfl
@[simp] theorem State.mem_setHidden (s : State) (v : Byte) : (s.setHidden v).mem = s.mem := rfl
@[simp] theorem State.dev_setHidden (s : State) (v : Byte) : (s.setHidden v).dev = s.dev := rfl
@[simp] theorem State.run_setHidden (s : State) (v : Byte) : (s.setHidden v).run = s.run := rfl
@[simp] theorem State.opcode_setHidden (s : State) (v : Byte) : (s.setHidden v).opcode = s.opcode := rfl
@[simp] theorem State.ccrOpcode_setHidden (s : State) (v : Byte) : (s.setHidden v).ccrOpcode = s.ccrOpcode := rfl
@[simp] theorem State.hidden_setHidden (s : State) (v : Byte) : (s.setHidden v).hidden = v := rfl
@[simp] theorem State.stores_setHidden (s : State) (v : Byte) : (s.setHidden v).stores = s.stores := rfl
@[simp] theorem State.irqLag_setHidden (s : State) (v : Byte) : (s.setHidden v).irqLag = s.irqLag := rfl
@[simp] theorem State.env_setHidden (s : State) (v : Byte) : (s.setHidden v).env = s.env := rfl
@[simp] theorem State.draws_setHidden (s : State) (v : Byte) : (s.setHidden v).draws = s.draws := rfl

@[simp] theorem State.a_setIrqLag (s : State) (v : Bool) : (s.setIrqLag v).a = s.a := rfl
@[simp] theorem State.b_setIrqLag (s : State) (v : Bool) : (s.setIrqLag v).b = s.b := rfl
@[simp] theorem State.ix_setIrqLag (s : State) (v : Bool) : (s.setIrqLag v).ix = s.ix := rfl
@[simp] theorem State.sp_setIrqLag (s : State) (v : Bool) : (s.setIrqLag v).sp = s.sp := rfl
@[simp] theorem State.pc_setIrqLag (s : State) (v : Bool) : (s.setIrqLag v).pc = s.pc := rfl
@[simp] theorem State.ccr_setIrqLag (s : State) (v : Bool) : (s.setIrqLag v).ccr = s.ccr := rfl
@[simp] theorem State.mem_setIrqLag (s : State) (v : Bool) : (s.setIrqLag v).mem = s.mem := rfl
@[simp] theorem State.dev_setIrqLag (s : State) (v : Bool) : (s.setIrqLag v).dev = s.dev := rfl
@[simp] theorem State.run_setIrqLag (s : State) (v : Bool) : (s.setIrqLag v).run = s.run := rfl
@[simp] theorem State.opcode_setIrqLag (s : State) (v : Bool) : (s.setIrqLag v).opcode = s.opcode := rfl
@[simp] theorem State.ccrOpcode_setIrqLag (s : State) (v : Bool) : (s.setIrqLag v).ccrOpcode = s.ccrOpcode := rfl
@[simp] theorem State.hidden_setIrqLag (s : State) (v : Bool) : (s.setIrqLag v).hidden = s.hidden := rfl
@[simp] theorem State.stores_setIrqLag (s : State) (v : Bool) : (s.setIrqLag v).stores = s.stores := rfl
@[simp] theorem State.irqLag_setIrqLag (s : State) (v : Bool) : (s.setIrqLag v).irqLag = v := rfl
@[simp] theorem State.env_setIrqLag (s : State) (v : Bool) : (s.setIrqLag v).env = s.env := rfl
@[simp] theorem State.draws_setIrqLag (s : State) (v : Bool) : (s.setIrqLag v).draws = s.draws := rfl

@[simp] theorem State.a_drew (s : State) (n : Nat) : (s.drew n).a = s.a := rfl
@[simp] theorem State.b_drew (s : State) (n : Nat) : (s.drew n).b = s.b := rfl
@[simp] theorem State.ix_drew (s : State) (n : Nat) : (s.drew n).ix = s.ix := rfl
@[simp] theorem State.sp_drew (s : State) (n : Nat) : (s.drew n).sp = s.sp := rfl
@[simp] theorem State.pc_drew (s : State) (n : Nat) : (s.drew n).pc = s.pc := rfl
@[simp] theorem State.ccr_drew (s : State) (n : Nat) : (s.drew n).ccr = s.ccr := rfl
@[simp] theorem State.mem_drew (s : State) (n : Nat) : (s.drew n).mem = s.mem := rfl
@[simp] theorem State.dev_drew (s : State) (n : Nat) : (s.drew n).dev = s.dev := rfl
@[simp] theorem State.run_drew (s : State) (n : Nat) : (s.drew n).run = s.run := rfl
@[simp] theorem State.opcode_drew (s : State) (n : Nat) : (s.drew n).opcode = s.opcode := rfl
@[simp] theorem State.ccrOpcode_drew (s : State) (n : Nat) : (s.drew n).ccrOpcode = s.ccrOpcode := rfl
@[simp] theorem State.hidden_drew (s : State) (n : Nat) : (s.drew n).hidden = s.hidden := rfl
@[simp] theorem State.stores_drew (s : State) (n : Nat) : (s.drew n).stores = s.stores := rfl
@[simp] theorem State.irqLag_drew (s : State) (n : Nat) : (s.drew n).irqLag = s.irqLag := rfl
@[simp] theorem State.env_drew (s : State) (n : Nat) : (s.drew n).env = s.env := rfl
@[simp] theorem State.draws_drew (s : State) (n : Nat) : (s.drew n).draws = s.draws + n := rfl

@[simp] theorem State.a_setD (s : State) (v : Word) : (s.setD v).a = hiByte v := rfl
@[simp] theorem State.b_setD (s : State) (v : Word) : (s.setD v).b = loByte v := rfl
@[simp] theorem State.ix_setD (s : State) (v : Word) : (s.setD v).ix = s.ix := rfl
@[simp] theorem State.sp_setD (s : State) (v : Word) : (s.setD v).sp = s.sp := rfl
@[simp] theorem State.pc_setD (s : State) (v : Word) : (s.setD v).pc = s.pc := rfl
@[simp] theorem State.ccr_setD (s : State) (v : Word) : (s.setD v).ccr = s.ccr := rfl
@[simp] theorem State.mem_setD (s : State) (v : Word) : (s.setD v).mem = s.mem := rfl
@[simp] theorem State.dev_setD (s : State) (v : Word) : (s.setD v).dev = s.dev := rfl
@[simp] theorem State.run_setD (s : State) (v : Word) : (s.setD v).run = s.run := rfl
@[simp] theorem State.opcode_setD (s : State) (v : Word) : (s.setD v).opcode = s.opcode := rfl
@[simp] theorem State.ccrOpcode_setD (s : State) (v : Word) : (s.setD v).ccrOpcode = s.ccrOpcode := rfl
@[simp] theorem State.hidden_setD (s : State) (v : Word) : (s.setD v).hidden = s.hidden := rfl
@[simp] theorem State.stores_setD (s : State) (v : Word) : (s.setD v).stores = s.stores := rfl
@[simp] theorem State.irqLag_setD (s : State) (v : Word) : (s.setD v).irqLag = s.irqLag := rfl
@[simp] theorem State.env_setD (s : State) (v : Word) : (s.setD v).env = s.env := rfl
@[simp] theorem State.draws_setD (s : State) (v : Word) : (s.setD v).draws = s.draws := rfl

@[simp] theorem State.a_storeRam (s : State) (x : Word) (v : Byte) : (s.storeRam x v).a = s.a := rfl
@[simp] theorem State.b_storeRam (s : State) (x : Word) (v : Byte) : (s.storeRam x v).b = s.b := rfl
@[simp] theorem State.ix_storeRam (s : State) (x : Word) (v : Byte) : (s.storeRam x v).ix = s.ix := rfl
@[simp] theorem State.sp_storeRam (s : State) (x : Word) (v : Byte) : (s.storeRam x v).sp = s.sp := rfl
@[simp] theorem State.pc_storeRam (s : State) (x : Word) (v : Byte) : (s.storeRam x v).pc = s.pc := rfl
@[simp] theorem State.ccr_storeRam (s : State) (x : Word) (v : Byte) : (s.storeRam x v).ccr = s.ccr := rfl
@[simp] theorem State.mem_storeRam (s : State) (x : Word) (v : Byte) : (s.storeRam x v).mem = s.mem.set x.toNat v := rfl
@[simp] theorem State.dev_storeRam (s : State) (x : Word) (v : Byte) : (s.storeRam x v).dev = s.dev := rfl
@[simp] theorem State.run_storeRam (s : State) (x : Word) (v : Byte) : (s.storeRam x v).run = s.run := rfl
@[simp] theorem State.opcode_storeRam (s : State) (x : Word) (v : Byte) : (s.storeRam x v).opcode = s.opcode := rfl
@[simp] theorem State.ccrOpcode_storeRam (s : State) (x : Word) (v : Byte) : (s.storeRam x v).ccrOpcode = s.ccrOpcode := rfl
@[simp] theorem State.hidden_storeRam (s : State) (x : Word) (v : Byte) : (s.storeRam x v).hidden = s.hidden := rfl
@[simp] theorem State.stores_storeRam (s : State) (x : Word) (v : Byte) : (s.storeRam x v).stores = x :: s.stores := rfl
@[simp] theorem State.irqLag_storeRam (s : State) (x : Word) (v : Byte) : (s.storeRam x v).irqLag = s.irqLag := rfl
@[simp] theorem State.env_storeRam (s : State) (x : Word) (v : Byte) : (s.storeRam x v).env = s.env := rfl
@[simp] theorem State.draws_storeRam (s : State) (x : Word) (v : Byte) : (s.storeRam x v).draws = s.draws := rfl

@[simp] theorem State.a_setOpcode (s : State) (v : Byte) : (s.setOpcode v).a = s.a := rfl
@[simp] theorem State.b_setOpcode (s : State) (v : Byte) : (s.setOpcode v).b = s.b := rfl
@[simp] theorem State.ix_setOpcode (s : State) (v : Byte) : (s.setOpcode v).ix = s.ix := rfl
@[simp] theorem State.sp_setOpcode (s : State) (v : Byte) : (s.setOpcode v).sp = s.sp := rfl
@[simp] theorem State.pc_setOpcode (s : State) (v : Byte) : (s.setOpcode v).pc = s.pc := rfl
@[simp] theorem State.ccr_setOpcode (s : State) (v : Byte) : (s.setOpcode v).ccr = s.ccr := rfl
@[simp] theorem State.mem_setOpcode (s : State) (v : Byte) : (s.setOpcode v).mem = s.mem := rfl
@[simp] theorem State.dev_setOpcode (s : State) (v : Byte) : (s.setOpcode v).dev = s.dev := rfl
@[simp] theorem State.run_setOpcode (s : State) (v : Byte) : (s.setOpcode v).run = s.run := rfl
@[simp] theorem State.opcode_setOpcode (s : State) (v : Byte) : (s.setOpcode v).opcode = v := rfl
@[simp] theorem State.ccrOpcode_setOpcode (s : State) (v : Byte) : (s.setOpcode v).ccrOpcode = s.ccrOpcode := rfl
@[simp] theorem State.hidden_setOpcode (s : State) (v : Byte) : (s.setOpcode v).hidden = s.hidden := rfl
@[simp] theorem State.stores_setOpcode (s : State) (v : Byte) : (s.setOpcode v).stores = s.stores := rfl
@[simp] theorem State.irqLag_setOpcode (s : State) (v : Byte) : (s.setOpcode v).irqLag = s.irqLag := rfl
@[simp] theorem State.env_setOpcode (s : State) (v : Byte) : (s.setOpcode v).env = s.env := rfl
@[simp] theorem State.draws_setOpcode (s : State) (v : Byte) : (s.setOpcode v).draws = s.draws := rfl

@[simp] theorem State.a_taken (s : State) : (s.taken).a = s.a := rfl
@[simp] theorem State.b_taken (s : State) : (s.taken).b = s.b := rfl
@[simp] theorem State.ix_taken (s : State) : (s.taken).ix = s.ix := rfl
@[simp] theorem State.sp_taken (s : State) : (s.taken).sp = s.sp := rfl
@[simp] theorem State.pc_taken (s : State) : (s.taken).pc = s.pc := rfl
@[simp] theorem State.ccr_taken (s : State) : (s.taken).ccr = s.ccr := rfl
@[simp] theorem State.mem_taken (s : State) : (s.taken).mem = s.mem := rfl
@[simp] theorem State.dev_taken (s : State) : (s.taken).dev = s.dev := rfl
@[simp] theorem State.run_taken (s : State) : (s.taken).run = .running := rfl
@[simp] theorem State.opcode_taken (s : State) : (s.taken).opcode = swiOpcode := rfl
@[simp] theorem State.ccrOpcode_taken (s : State) : (s.taken).ccrOpcode = swiOpcode := rfl
@[simp] theorem State.hidden_taken (s : State) : (s.taken).hidden = s.hidden := rfl
@[simp] theorem State.stores_taken (s : State) : (s.taken).stores = [] := rfl
@[simp] theorem State.irqLag_taken (s : State) : (s.taken).irqLag = false := rfl
@[simp] theorem State.env_taken (s : State) : (s.taken).env = s.env := rfl
@[simp] theorem State.draws_taken (s : State) : (s.taken).draws = s.draws := rfl

@[simp] theorem State.a_fetched (s : State) (op : Byte) : (s.fetched op).a = s.a := rfl
@[simp] theorem State.b_fetched (s : State) (op : Byte) : (s.fetched op).b = s.b := rfl
@[simp] theorem State.ix_fetched (s : State) (op : Byte) : (s.fetched op).ix = s.ix := rfl
@[simp] theorem State.sp_fetched (s : State) (op : Byte) : (s.fetched op).sp = s.sp := rfl
@[simp] theorem State.pc_fetched (s : State) (op : Byte) : (s.fetched op).pc = s.pc := rfl
@[simp] theorem State.ccr_fetched (s : State) (op : Byte) : (s.fetched op).ccr = s.ccr := rfl
@[simp] theorem State.mem_fetched (s : State) (op : Byte) : (s.fetched op).mem = s.mem := rfl
@[simp] theorem State.dev_fetched (s : State) (op : Byte) : (s.fetched op).dev = s.dev := rfl
@[simp] theorem State.run_fetched (s : State) (op : Byte) : (s.fetched op).run = s.run := rfl
@[simp] theorem State.opcode_fetched (s : State) (op : Byte) : (s.fetched op).opcode = op := rfl
@[simp] theorem State.ccrOpcode_fetched (s : State) (op : Byte) : (s.fetched op).ccrOpcode = op := rfl
@[simp] theorem State.hidden_fetched (s : State) (op : Byte) : (s.fetched op).hidden = s.hidden := rfl
@[simp] theorem State.stores_fetched (s : State) (op : Byte) : (s.fetched op).stores = [] := rfl
@[simp] theorem State.irqLag_fetched (s : State) (op : Byte) : (s.fetched op).irqLag = false := rfl
@[simp] theorem State.env_fetched (s : State) (op : Byte) : (s.fetched op).env = s.env := rfl
@[simp] theorem State.draws_fetched (s : State) (op : Byte) : (s.fetched op).draws = s.draws := rfl

/-! ## The accumulators and the 16-bit registers by name -/

@[simp] theorem State.ix_setAcc (s : State) (r : Acc) (v : Byte) : (s.setAcc r v).ix = s.ix := by cases r <;> rfl
@[simp] theorem State.sp_setAcc (s : State) (r : Acc) (v : Byte) : (s.setAcc r v).sp = s.sp := by cases r <;> rfl
@[simp] theorem State.pc_setAcc (s : State) (r : Acc) (v : Byte) : (s.setAcc r v).pc = s.pc := by cases r <;> rfl
@[simp] theorem State.ccr_setAcc (s : State) (r : Acc) (v : Byte) : (s.setAcc r v).ccr = s.ccr := by cases r <;> rfl
@[simp] theorem State.mem_setAcc (s : State) (r : Acc) (v : Byte) : (s.setAcc r v).mem = s.mem := by cases r <;> rfl
@[simp] theorem State.dev_setAcc (s : State) (r : Acc) (v : Byte) : (s.setAcc r v).dev = s.dev := by cases r <;> rfl
@[simp] theorem State.run_setAcc (s : State) (r : Acc) (v : Byte) : (s.setAcc r v).run = s.run := by cases r <;> rfl
@[simp] theorem State.opcode_setAcc (s : State) (r : Acc) (v : Byte) : (s.setAcc r v).opcode = s.opcode := by cases r <;> rfl
@[simp] theorem State.ccrOpcode_setAcc (s : State) (r : Acc) (v : Byte) : (s.setAcc r v).ccrOpcode = s.ccrOpcode := by cases r <;> rfl
@[simp] theorem State.hidden_setAcc (s : State) (r : Acc) (v : Byte) : (s.setAcc r v).hidden = s.hidden := by cases r <;> rfl
@[simp] theorem State.stores_setAcc (s : State) (r : Acc) (v : Byte) : (s.setAcc r v).stores = s.stores := by cases r <;> rfl
@[simp] theorem State.irqLag_setAcc (s : State) (r : Acc) (v : Byte) : (s.setAcc r v).irqLag = s.irqLag := by cases r <;> rfl
@[simp] theorem State.env_setAcc (s : State) (r : Acc) (v : Byte) : (s.setAcc r v).env = s.env := by cases r <;> rfl
@[simp] theorem State.draws_setAcc (s : State) (r : Acc) (v : Byte) : (s.setAcc r v).draws = s.draws := by cases r <;> rfl

@[simp] theorem State.acc_setAcc (s : State) (r : Acc) (v : Byte) : (s.setAcc r v).acc r = v := by cases r <;> rfl
@[simp] theorem State.acc_setCcr (s : State) (r : Acc) (c : Ccr) : (s.setCcr c).acc r = s.acc r := by cases r <;> rfl
@[simp] theorem State.acc_drew (s : State) (r : Acc) (n : Nat) : (s.drew n).acc r = s.acc r := by cases r <;> rfl
@[simp] theorem State.acc_storeRam (s : State) (r : Acc) (x : Word) (v : Byte) : (s.storeRam x v).acc r = s.acc r := by
  cases r <;> rfl
@[simp] theorem State.acc_setDev (s : State) (r : Acc) (d : Devices) : (s.setDev d).acc r = s.acc r := by cases r <;> rfl

@[simp] theorem State.pc_setReg16 (s : State) (r : Reg16) (v : Word) : (s.setReg16 r v).pc = s.pc := by cases r <;> rfl
@[simp] theorem State.ccr_setReg16 (s : State) (r : Reg16) (v : Word) : (s.setReg16 r v).ccr = s.ccr := by cases r <;> rfl
@[simp] theorem State.mem_setReg16 (s : State) (r : Reg16) (v : Word) : (s.setReg16 r v).mem = s.mem := by cases r <;> rfl
@[simp] theorem State.dev_setReg16 (s : State) (r : Reg16) (v : Word) : (s.setReg16 r v).dev = s.dev := by cases r <;> rfl
@[simp] theorem State.run_setReg16 (s : State) (r : Reg16) (v : Word) : (s.setReg16 r v).run = s.run := by cases r <;> rfl
@[simp] theorem State.opcode_setReg16 (s : State) (r : Reg16) (v : Word) : (s.setReg16 r v).opcode = s.opcode := by cases r <;> rfl
@[simp] theorem State.ccrOpcode_setReg16 (s : State) (r : Reg16) (v : Word) : (s.setReg16 r v).ccrOpcode = s.ccrOpcode := by cases r <;> rfl
@[simp] theorem State.hidden_setReg16 (s : State) (r : Reg16) (v : Word) : (s.setReg16 r v).hidden = s.hidden := by cases r <;> rfl
@[simp] theorem State.stores_setReg16 (s : State) (r : Reg16) (v : Word) : (s.setReg16 r v).stores = s.stores := by cases r <;> rfl
@[simp] theorem State.irqLag_setReg16 (s : State) (r : Reg16) (v : Word) : (s.setReg16 r v).irqLag = s.irqLag := by cases r <;> rfl
@[simp] theorem State.env_setReg16 (s : State) (r : Reg16) (v : Word) : (s.setReg16 r v).env = s.env := by cases r <;> rfl
@[simp] theorem State.draws_setReg16 (s : State) (r : Reg16) (v : Word) : (s.setReg16 r v).draws = s.draws := by cases r <;> rfl

/-! ## The lookahead load: the Opcode register and the count of draws alone -/

@[simp] theorem State.a_lookahead (s : State) (m : Memory) : (s.lookahead m).a = s.a := rfl
@[simp] theorem State.b_lookahead (s : State) (m : Memory) : (s.lookahead m).b = s.b := rfl
@[simp] theorem State.ix_lookahead (s : State) (m : Memory) : (s.lookahead m).ix = s.ix := rfl
@[simp] theorem State.sp_lookahead (s : State) (m : Memory) : (s.lookahead m).sp = s.sp := rfl
@[simp] theorem State.pc_lookahead (s : State) (m : Memory) : (s.lookahead m).pc = s.pc := rfl
@[simp] theorem State.ccr_lookahead (s : State) (m : Memory) : (s.lookahead m).ccr = s.ccr := rfl
@[simp] theorem State.mem_lookahead (s : State) (m : Memory) : (s.lookahead m).mem = s.mem := rfl
@[simp] theorem State.dev_lookahead (s : State) (m : Memory) : (s.lookahead m).dev = s.dev := rfl
@[simp] theorem State.run_lookahead (s : State) (m : Memory) : (s.lookahead m).run = s.run := rfl
@[simp] theorem State.ccrOpcode_lookahead (s : State) (m : Memory) : (s.lookahead m).ccrOpcode = s.ccrOpcode := rfl
@[simp] theorem State.hidden_lookahead (s : State) (m : Memory) : (s.lookahead m).hidden = s.hidden := rfl
@[simp] theorem State.stores_lookahead (s : State) (m : Memory) : (s.lookahead m).stores = s.stores := rfl
@[simp] theorem State.irqLag_lookahead (s : State) (m : Memory) : (s.lookahead m).irqLag = s.irqLag := rfl
@[simp] theorem State.env_lookahead (s : State) (m : Memory) : (s.lookahead m).env = s.env := rfl

end Sys2Proof.Machine
end

