-- ==== Sys2Proof/Laws/Memory.lean ====
section
/-! SUPPORT. The laws of RAM: read after write, and that every operation keeps the canonical form (20_memory.md R70). -/

namespace Sys2Proof.Machine

@[simp] theorem Memory.get_nil (a : Nat) : Memory.get [] a = Memory.unlisted := rfl

theorem Memory.get_erase_same (m : Memory) (a : Nat) : (Memory.erase m a).get a = Memory.unlisted := by
  induction m with
  | nil => rfl
  | cons c rest ih =>
    obtain ⟨k, v⟩ := c
    by_cases h : k = a <;> simp [Memory.erase, Memory.get, h, ih]

theorem Memory.get_erase_other (m : Memory) {a b : Nat} (h : b ≠ a) : (Memory.erase m a).get b = Memory.get m b := by
  induction m with
  | nil => rfl
  | cons c rest ih =>
    obtain ⟨k, v⟩ := c
    by_cases hk : k = a
    · subst hk; simp [Memory.erase, Memory.get, ih, Ne.symm h]
    · rw [Memory.erase, if_neg hk, Memory.get, Memory.get, ih]

theorem Memory.get_insert_same (m : Memory) (a : Nat) (x : Byte) (h : ∀ c ∈ m, c.1 ≠ a) :
    (Memory.insert m a x).get a = x := by
  induction m with
  | nil => simp [Memory.insert, Memory.get]
  | cons c rest ih =>
    obtain ⟨k, v⟩ := c
    have hk : k ≠ a := h (k, v) (by simp)
    by_cases hlt : a < k
    · simp [Memory.insert, Memory.get, hlt]
    · simp [Memory.insert, Memory.get, hlt, hk, ih (fun c hc => h c (by simp [hc]))]

theorem Memory.get_insert_other (m : Memory) {a b : Nat} (x : Byte) (h : b ≠ a) :
    (Memory.insert m a x).get b = Memory.get m b := by
  induction m with
  | nil => simp [Memory.insert, Memory.get, Ne.symm h]
  | cons c rest ih =>
    obtain ⟨k, v⟩ := c
    by_cases hlt : a < k
    · simp [Memory.insert, Memory.get, hlt, Ne.symm h]
    · rw [Memory.insert, if_neg hlt, Memory.get, Memory.get, ih]

theorem Memory.ne_of_mem_erase {m : Memory} {a : Nat} {c : Host.Cell} (h : c ∈ Memory.erase m a) : c.1 ≠ a := by
  induction m with
  | nil => simp [Memory.erase] at h
  | cons d rest ih =>
    obtain ⟨k, v⟩ := d
    by_cases hk : k = a
    · rw [Memory.erase, if_pos hk] at h; exact ih h
    · rw [Memory.erase, if_neg hk] at h
      rcases List.mem_cons.mp h with rfl | h'
      · exact hk
      · exact ih h'

/-- A read of the byte just written. -/
@[simp] theorem Memory.get_set_same (m : Memory) (a : Nat) (x : Byte) : (Memory.set m a x).get a = x := by
  unfold Memory.set
  split
  · next h => rw [Memory.get_erase_same, h]
  · exact Memory.get_insert_same _ _ _ (fun c hc => Memory.ne_of_mem_erase hc)

/-- A write leaves every other byte alone. -/
theorem Memory.get_set_other (m : Memory) {a b : Nat} (x : Byte) (h : b ≠ a) :
    (Memory.set m a x).get b = Memory.get m b := by
  unfold Memory.set
  split
  · exact Memory.get_erase_other m h
  · rw [Memory.get_insert_other _ _ h, Memory.get_erase_other m h]

/-! ## The canonical form -/

/-- What one entry of a canonical memory looks like. -/
def Memory.cellOk (c : Host.Cell) : Prop := c.1 < 0x8000 ∧ c.2 ≠ Memory.unlisted

theorem Memory.wf_iff (m : Memory) :
    m.wf = true ↔ m.Pairwise (fun x y => x.1 < y.1) ∧ ∀ c ∈ m, Memory.cellOk c := by
  simp only [Memory.wf, Memory.cellOk, params, Bool.and_eq_true, decide_eq_true_eq, List.all_eq_true, BitVec.toNat_ofNat]
  refine and_congr_right fun _ => forall₂_congr fun c _ => ?_
  rw [show (2 : Nat) ^ 16 = 0x10000 from rfl]
  refine and_congr_left fun _ => ?_
  omega

theorem Memory.mem_of_mem_erase {m : Memory} {a : Nat} {c : Host.Cell} (h : c ∈ Memory.erase m a) : c ∈ m := by
  induction m with
  | nil => simp [Memory.erase] at h
  | cons d rest ih =>
    obtain ⟨k, v⟩ := d
    by_cases hk : k = a
    · rw [Memory.erase, if_pos hk] at h; exact List.mem_cons_of_mem _ (ih h)
    · rw [Memory.erase, if_neg hk] at h
      rcases List.mem_cons.mp h with rfl | h'
      · exact List.mem_cons_self
      · exact List.mem_cons_of_mem _ (ih h')

theorem Memory.mem_insert {m : Memory} {a : Nat} {x : Byte} {c : Host.Cell} (h : c ∈ Memory.insert m a x) :
    c = (a, x) ∨ c ∈ m := by
  induction m with
  | nil => simpa [Memory.insert] using h
  | cons d rest ih =>
    obtain ⟨k, v⟩ := d
    by_cases hlt : a < k
    · rw [Memory.insert, if_pos hlt] at h; simpa using h
    · rw [Memory.insert, if_neg hlt] at h
      rcases List.mem_cons.mp h with rfl | h'
      · exact .inr List.mem_cons_self
      · exact (ih h').imp_right (List.mem_cons_of_mem _)

theorem Memory.pairwise_erase {m : Memory} (a : Nat) (h : m.Pairwise (fun x y => x.1 < y.1)) :
    (Memory.erase m a).Pairwise (fun x y => x.1 < y.1) := by
  induction m with
  | nil => exact h
  | cons d rest ih =>
    obtain ⟨k, v⟩ := d
    rw [List.pairwise_cons] at h
    by_cases hk : k = a
    · rw [Memory.erase, if_pos hk]; exact ih h.2
    · rw [Memory.erase, if_neg hk, List.pairwise_cons]
      exact ⟨fun c hc => h.1 c (Memory.mem_of_mem_erase hc), ih h.2⟩

theorem Memory.pairwise_insert {m : Memory} {a : Nat} (x : Byte) (h : m.Pairwise (fun x y => x.1 < y.1))
    (hne : ∀ c ∈ m, c.1 ≠ a) : (Memory.insert m a x).Pairwise (fun x y => x.1 < y.1) := by
  induction m with
  | nil => simp [Memory.insert]
  | cons d rest ih =>
    obtain ⟨k, v⟩ := d
    have hk : k ≠ a := hne (k, v) List.mem_cons_self
    rw [List.pairwise_cons] at h
    by_cases hlt : a < k
    · rw [Memory.insert, if_pos hlt, List.pairwise_cons, List.pairwise_cons]
      refine ⟨fun c hc => ?_, h.1, h.2⟩
      rcases List.mem_cons.mp hc with rfl | hc'
      · exact hlt
      · exact hlt.trans (h.1 c hc')
    · rw [Memory.insert, if_neg hlt, List.pairwise_cons]
      refine ⟨fun c hc => ?_, ih h.2 (fun c hc => hne c (List.mem_cons_of_mem _ hc))⟩
      rcases Memory.mem_insert hc with rfl | hc'
      · simp only; omega
      · exact h.1 c hc'

/-- A write to RAM keeps the canonical form. -/
theorem Memory.wf_set {m : Memory} {a : Nat} (x : Byte) (h : m.wf = true) (ha : a < 0x8000) :
    (Memory.set m a x).wf = true := by
  rw [Memory.wf_iff] at h ⊢
  unfold Memory.set
  split
  · exact ⟨Memory.pairwise_erase a h.1, fun c hc => h.2 c (Memory.mem_of_mem_erase hc)⟩
  · next hx =>
    refine ⟨Memory.pairwise_insert x (Memory.pairwise_erase a h.1) (fun c hc => Memory.ne_of_mem_erase hc), ?_⟩
    intro c hc
    rcases Memory.mem_insert hc with rfl | hc'
    · exact ⟨ha, hx⟩
    · exact h.2 c (Memory.mem_of_mem_erase hc')

theorem isRam_iff (a : Word) : params.isRam a = true ↔ a.toNat < 0x8000 := by simp [params]

/-! ## The state's view -/

@[simp] theorem State.ram_storeRam_same (s : State) (a : Word) (x : Byte) : (s.storeRam a x).ram a = x := by
  simp [State.ram]

theorem State.ram_storeRam_other (s : State) {a b : Word} (x : Byte) (h : b ≠ a) :
    (s.storeRam a x).ram b = s.ram b := by
  have h' : b.toNat ≠ a.toNat := fun e => h (BitVec.eq_of_toNat_eq e)
  simp [State.ram, Memory.get_set_other _ _ h']

/-- A store of a byte to RAM keeps the canonical form. -/
theorem State.wf_storeRam {s : State} {a : Word} (x : Byte) (h : s.mem.wf = true) (ha : params.isRam a = true) :
    (s.storeRam a x).mem.wf = true := Memory.wf_set x h ((isRam_iff a).mp ha)

end Sys2Proof.Machine
end

