-- ==== Sys2Proof/Laws/Ops.lean ====
section
/-! SUPPORT. What each shared operation can do, said once: the memory accesses, the stack, the interrupt entry and return,
the operand forms. -/

namespace Sys2Proof.Machine

/-! ## Going on -/

section
variable {α β : Type}

@[simp] theorem andThen_next (a : α) (f : α → Res β) : andThen (.next a) f = f a := rfl
@[simp] theorem andThen_fault (r : Fault) (f : α → Res β) : andThen (.fault r) f = .fault r := rfl
@[simp] theorem andThen_refused (r : Refusal) (f : α → Res β) : andThen (.refused r) f = .refused r := rfl

/-- A composed operation completes only through a value of its first part. -/
theorem andThen_eq_next {x : Res α} {f : α → Res β} {b : β} :
    andThen x f = .next b ↔ ∃ a, x = .next a ∧ f a = .next b := by
  cases x <;> simp

end

/-! ## Addresses -/

theorem mmReg_of_isRam {a : Word} (h : params.isRam a = true) : mmReg a = none := by
  have h' := (isRam_iff a).mp h
  unfold mmReg
  split <;> first | rfl | (next e => omega)

theorem not_isRam_iff (a : Word) : params.isRam a = false ↔ 0x8000 ≤ a.toNat := by simp [params]

/-! ## Bytes -/

theorem read8_ram {a : Word} (s : State) (h : params.isRam a = true) : read8 a s = .next (s.ram a, s) := by
  simp [read8, h]

theorem write8_ram {a : Word} (v : Byte) (s : State) (h : params.isRam a = true) :
    write8 a v s = .next (s.storeRam a v) := by
  simp [write8, h]

theorem readMm_state (r : MmReg) (s : State) : (readMm r s).2 = s ∨ (readMm r s).2 = s.drew 1 := by
  cases r <;> simp [readMm]

/-- A byte read that completes changes nothing but the count of free values drawn. -/
theorem read8_next {a : Word} {s t : State} {v : Byte} (h : read8 a s = .next (v, t)) : t = s ∨ t = s.drew 1 := by
  unfold read8 at h
  split at h
  · cases h; exact .inl rfl
  · split at h
    · next r _ =>
      have h2 : (readMm r s).2 = t := by injection h with h; rw [h]
      exact h2 ▸ readMm_state r s
    · cases h

/-- A byte write that completes stores to RAM, or changes the devices as their register says. -/
theorem write8_next {a : Word} {v : Byte} {s t : State} (h : write8 a v s = .next t) :
    (params.isRam a = true ∧ t = s.storeRam a v) ∨
    (params.isRam a = false ∧ ∃ r d, mmReg a = some r ∧ s.dev.write r v = some d ∧ t = s.setDev d) := by
  unfold write8 at h
  split at h
  · next hr => cases h; exact .inl ⟨hr, rfl⟩
  · next hr =>
    split at h
    · next r hm =>
      split at h
      · next d hd => cases h; exact .inr ⟨by simpa using hr, r, d, hm, hd, rfl⟩
      · cases h
    · cases h

/-! ## Words -/

/-- A word read that completes read two bytes, in ascending order. -/
theorem read16_next {a : Word} {s t : State} {w : Word} (h : read16 a s = .next (w, t)) :
    ∃ hi lo u, read8 a s = .next (hi, u) ∧ read8 (a + 1) u = .next (lo, t) ∧ w = joinBytes hi lo := by
  obtain ⟨p, hp, h⟩ := andThen_eq_next.mp h
  obtain ⟨q, hq, h⟩ := andThen_eq_next.mp h
  cases h
  exact ⟨p.1, q.1, p.2, hp, hq, rfl⟩

/-- A word write that completes wrote two bytes, in ascending order. -/
theorem write16_next {a w : Word} {s t : State} (h : write16 a w s = .next t) :
    ∃ u, write8 a (hiByte w) s = .next u ∧ write8 (a + 1) (loByte w) u = .next t :=
  andThen_eq_next.mp h

/-! ## The stack -/

theorem push8_next {v : Byte} {s t : State} (h : push8 v s = .next t) :
    ∃ u, write8 s.sp v s = .next u ∧ t = u.setSp (u.sp - 1) := by
  obtain ⟨u, hu, h⟩ := andThen_eq_next.mp h
  cases h
  exact ⟨u, hu, rfl⟩

theorem push16_next {w : Word} {s t : State} (h : push16 w s = .next t) :
    ∃ u, push8 (loByte w) s = .next u ∧ push8 (hiByte w) u = .next t :=
  andThen_eq_next.mp h

theorem pull16_next {s t : State} {w : Word} (h : pull16 s = .next (w, t)) :
    ∃ hi lo u, pull8 s = .next (hi, u) ∧ pull8 u = .next (lo, t) ∧ w = joinBytes hi lo := by
  obtain ⟨p, hp, h⟩ := andThen_eq_next.mp h
  obtain ⟨q, hq, h⟩ := andThen_eq_next.mp h
  cases h
  exact ⟨p.1, q.1, p.2, hp, hq, rfl⟩

/-! ## Interrupt entry and return -/

/-- What an interrupt entry that completes did (R345). -/
theorem trapEntry_next {vector : Word} {s t : State} (h : trapEntry vector s = .next t) :
    ∃ s1 s2 s3 w u, push16 s.pc s = .next s1 ∧ push16 s1.ix s1 = .next s2 ∧
      push16 (joinBytes s2.drawCcrByte.1 s2.a) s2.drawCcrByte.2 = .next s3 ∧
      read16 vector (s3.setCcr { s3.ccr with i := true }) = .next (w, u) ∧ t = u.setPc w := by
  obtain ⟨s1, h1, h⟩ := andThen_eq_next.mp h
  obtain ⟨s2, h2, h⟩ := andThen_eq_next.mp h
  obtain ⟨s3, h3, h⟩ := andThen_eq_next.mp h
  obtain ⟨p, hp, h⟩ := andThen_eq_next.mp h
  cases h
  exact ⟨s1, s2, s3, p.1, p.2, h1, h2, h3, hp, rfl⟩

/-- What a return from interrupt that completes did (R204). -/
theorem trapReturn_next {s t : State} (h : trapReturn s = .next t) :
    ∃ w1 u1 w2 u2 w3 u3, pull16 s = .next (w1, u1) ∧
      pull16 ((u1.setCcr (Ccr.ofByte (hiByte w1))).setA (loByte w1)) = .next (w2, u2) ∧
      pull16 (u2.setIx w2) = .next (w3, u3) ∧ t = (u3.setPc w3).setIrqLag (!u3.ccr.i) := by
  obtain ⟨p1, h1, h⟩ := andThen_eq_next.mp h
  obtain ⟨p2, h2, h⟩ := andThen_eq_next.mp h
  obtain ⟨p3, h3, h⟩ := andThen_eq_next.mp h
  cases h
  exact ⟨p1.1, p1.2, p2.1, p2.2, p3.1, p3.2, h1, h2, h3, rfl⟩

/-! ## Operand forms -/

theorem load8_next {ea : Word} {f : Byte → State → State} {s t : State} (h : load8 ea f s = .next t) :
    ∃ v u, read8 ea s = .next (v, u) ∧ t = f v u := by
  obtain ⟨p, hp, h⟩ := andThen_eq_next.mp h
  cases h
  exact ⟨p.1, p.2, hp, rfl⟩

theorem load16_next {ea : Word} {f : Word → State → State} {s t : State} (h : load16 ea f s = .next t) :
    ∃ w u, read16 ea s = .next (w, u) ∧ t = f w u := by
  obtain ⟨p, hp, h⟩ := andThen_eq_next.mp h
  cases h
  exact ⟨p.1, p.2, hp, rfl⟩

theorem postInc_next {n : Nat} {x : Res State} {t : State} (h : postInc n x = .next t) :
    ∃ u, x = .next u ∧ t = u.setIx (u.ix + params.ixpStep n) := by
  obtain ⟨u, hu, h⟩ := andThen_eq_next.mp h
  cases h
  exact ⟨u, hu, rfl⟩

theorem rmw8_next {ea : Word} {f : UnaryOp} {s t : State} (h : rmw8 ea f s = .next t) :
    ∃ m u w, read8 ea s = .next (m, u) ∧ write8 ea (f m u.ccr).1 u = .next w ∧ t = w.setCcr (f m u.ccr).2 := by
  obtain ⟨p, hp, h⟩ := andThen_eq_next.mp h
  obtain ⟨w, hw, h⟩ := andThen_eq_next.mp h
  cases h
  exact ⟨p.1, p.2, w, hp, hw, rfl⟩

/-! ## Fetching -/

/-- A fetch that completes changes the program counter, the Opcode register and what the instruction before left. -/
theorem fetch8_next {s t : State} {x : Byte} (h : fetch8 s = .next (x, t)) :
    params.isRam s.pc = true ∧ x = s.ram s.pc ∧ t = s.setPc (s.pc + 1) := by
  unfold fetch8 at h
  split at h
  · next hr => cases h; exact ⟨hr, rfl, rfl⟩
  · cases h

theorem fetchBytes_state (n : Nat) {s t : State} {bs : List Byte} (h : fetchBytes n s = .next (bs, t)) :
    t = s.setPc (s.pc + BitVec.ofNat 16 n) := by
  induction n generalizing s t bs with
  | zero => simp only [fetchBytes] at h; cases h; simp [State.setPc]
  | succ n ih =>
    obtain ⟨x, hx, h⟩ := andThen_eq_next.mp h
    obtain ⟨r, hr, h⟩ := andThen_eq_next.mp h
    cases h
    obtain ⟨-, -, he⟩ := fetch8_next hx
    rw [ih hr, he]
    simp only [State.setPc, State.mk.injEq, and_true, true_and]
    rw [BitVec.add_assoc, show (1 : Word) = BitVec.ofNat 16 1 from rfl, ← BitVec.ofNat_add, Nat.add_comm 1 n]

theorem fetchInstr_next {s t : State} {i : Instr} (h : fetchInstr s = .next (i, t)) :
    ∃ op pc, t = (s.setPc pc).fetched op := by
  unfold fetchInstr at h
  split at h
  · cases h
  · obtain ⟨x, hx, h⟩ := andThen_eq_next.mp h
    obtain ⟨-, -, he⟩ := fetch8_next hx
    split at h
    · cases h
    · obtain ⟨bs, hbs, h⟩ := andThen_eq_next.mp h
      split at h
      · cases h
        exact ⟨x.1, _, by rw [fetchBytes_state _ hbs, he]; rfl⟩
      · cases h
      · cases h

/-! ## The lookahead load and one cycle -/

/-- What the lookahead load gives, by where execution goes on: the byte there; where it was just stored to, the old or the new
one; outside RAM, some byte. -/
theorem nextOpcode_cases (old : Memory) (s : State) :
    (params.isRam s.pc = true ∧ s.pc ∉ s.stores ∧ s.nextOpcode old = (s.ram s.pc, 0)) ∨
    (params.isRam s.pc = true ∧ s.pc ∈ s.stores ∧
      (s.nextOpcode old = (old.get s.pc.toNat, 1) ∨ s.nextOpcode old = (s.ram s.pc, 1))) ∨
    (params.isRam s.pc = false ∧ s.nextOpcode old = (Config.freeByte s.draws, 1)) := by
  unfold State.nextOpcode
  by_cases hr : params.isRam s.pc = true
  · by_cases hs : s.pc ∈ s.stores
    · refine .inr (.inl ⟨hr, hs, ?_⟩)
      cases Config.freeBit s.draws <;> simp [hr, hs]
    · exact .inl ⟨hr, hs, by simp [hr, hs]⟩
  · exact .inr (.inr ⟨by simpa using hr, by simp [hr]⟩)

/-- An instruction that runs to its end was fetched, executed, and had the next opcode loaded ahead. -/
theorem runInstr_next {s t : State} (h : runInstr s = .next t) :
    ∃ i u v, fetchInstr s = .next (i, u) ∧ exec i u = .next v ∧ t = v.lookahead u.mem := by
  obtain ⟨p, hp, h⟩ := andThen_eq_next.mp h
  obtain ⟨v, hv, h⟩ := andThen_eq_next.mp h
  cases h
  exact ⟨p.1, p.2, v, hp, hv, rfl⟩

/-- A hardware entry that completes is the entry sequence through the selected source's vector, the routine's first opcode
loaded ahead. -/
theorem enterInterrupt_next {s t : State} (h : enterInterrupt s = .next t) :
    ∃ v, trapEntry s.selected.vector (s.drew 1).taken = .next v ∧ t = v.lookahead s.mem := by
  obtain ⟨v, hv, h⟩ := andThen_eq_next.mp h
  cases h
  exact ⟨v, hv, rfl⟩

end Sys2Proof.Machine
end

