-- ==== Sys2Proof/Laws/Access.lean ====
section
/-! SUPPORT. Which byte accesses complete and how the others stop, by address (20_memory.md R70, R73, R74), and how an operand
form follows from the operation an instruction's meaning is. -/

namespace Sys2Proof.Machine

open Sys2Proof.Safety

theorem isRam_of_inRam {a : Word} (h : InRam a) : params.isRam a = true := (isRam_iff a).mpr h

theorem not_isRam_of_not_inRam {a : Word} (h : ¬ InRam a) : params.isRam a = false := (not_isRam_iff a).mpr (not_lt.mp h)

/-- A readable address outside RAM is one of the fourteen registers. -/
theorem mmReg_of_readable {a : Word} (h1 : ¬ InRam a) (h2 : Readable a) : ∃ r, mmReg a = some r := by
  have h1' : 0x8000 ≤ a.toNat := not_lt.mp h1
  have h2' : a.toNat ≤ 0x800D := h2
  obtain ⟨n, hn⟩ : ∃ n, a.toNat = 0x8000 + n := ⟨a.toNat - 0x8000, by omega⟩
  have : n ≤ 13 := by omega
  unfold mmReg
  rw [hn]
  interval_cases n <;> simp

theorem mmReg_of_not_readable {a : Word} (h : ¬ Readable a) : mmReg a = none := by
  have h' : 0x800D < a.toNat := not_le.mp h
  unfold mmReg
  split <;> first | rfl | (next e => omega)

/-- A writable address outside RAM is a register that takes every byte. -/
theorem mmReg_of_writable {a : Word} (h1 : ¬ InRam a) (h2 : Writable a) :
    ∃ r, mmReg a = some r ∧ ∀ (d : Devices) (v : Byte), ∃ e, d.write r v = some e := by
  have h1' : 0x8000 ≤ a.toNat := not_lt.mp h1
  have h2' : a.toNat ≤ 0x8007 := h2
  obtain ⟨n, hn⟩ : ∃ n, a.toNat = 0x8000 + n := ⟨a.toNat - 0x8000, by omega⟩
  have : n ≤ 7 := by omega
  unfold mmReg
  rw [hn]
  interval_cases n <;> exact ⟨_, rfl, fun d v => ⟨_, rfl⟩⟩

/-! ## Bytes -/

theorem read8_of_readable {a : Word} (s : State) (h : Readable a) : read8 a s = .next (readOf a s) := by
  unfold readOf
  by_cases hr : InRam a
  · rw [read8_ram s (isRam_of_inRam hr)]
  · obtain ⟨r, hm⟩ := mmReg_of_readable hr h
    simp [read8, not_isRam_of_not_inRam hr, hm]

theorem not_inRam_of_not_readable {a : Word} (h : ¬ Readable a) : ¬ InRam a := by
  have h' : 0x800D < a.toNat := not_le.mp h
  exact not_lt.mpr (by omega)

theorem read8_of_not_readable {a : Word} (s : State) (h : ¬ Readable a) : read8 a s = .fault (.invalidAccess a) := by
  simp [read8, not_isRam_of_not_inRam (not_inRam_of_not_readable h), mmReg_of_not_readable h]

theorem write8_of_writable {a : Word} (v : Byte) (s : State) (h : Writable a) : write8 a v s = .next (wrote a v s) := by
  unfold wrote
  by_cases hr : InRam a
  · rw [write8_ram v s (isRam_of_inRam hr)]
  · obtain ⟨r, hm, hw⟩ := mmReg_of_writable hr h
    obtain ⟨e, he⟩ := hw s.dev v
    simp [write8, not_isRam_of_not_inRam hr, hm, he]

theorem write8_of_input {a : Word} (v : Byte) (s : State) (h1 : Readable a) (h2 : ¬ Writable a) :
    write8 a v s = .refused (.inputRegisterWrite a) := by
  have h1' : a.toNat ≤ 0x800D := h1
  have h2' : 0x8007 < a.toNat := not_le.mp h2
  have hr : params.isRam a = false := (not_isRam_iff a).mpr (by omega)
  simp only [write8, hr]
  obtain ⟨n, hn⟩ : ∃ n, a.toNat = 0x8008 + n := ⟨a.toNat - 0x8008, by omega⟩
  have : n ≤ 5 := by omega
  unfold mmReg
  rw [hn]
  interval_cases n <;> rfl

theorem write8_of_not_readable {a : Word} (v : Byte) (s : State) (h : ¬ Readable a) :
    write8 a v s = .fault (.invalidAccess a) := by
  simp [write8, not_isRam_of_not_inRam (not_inRam_of_not_readable h), mmReg_of_not_readable h]

/-- A write that does not complete stops as `writeStop` says; so does everything that goes on from it. -/
theorem write8_of_not_writable {α : Type} {a : Word} (v : Byte) (s : State) (f : State → Res α) (h : ¬ Writable a) :
    andThen (write8 a v s) f =
      if Readable a then .refused (.inputRegisterWrite a) else .fault (.invalidAccess a) := by
  by_cases hr : Readable a
  · rw [write8_of_input v s hr h, if_pos hr, andThen_refused]
  · rw [write8_of_not_readable v s hr, if_neg hr, andThen_fault]

/-- A byte read keeps every field but the count of draws; here, the flags. -/
@[simp] theorem readOf_ccr (a : Word) (s : State) : (readOf a s).2.ccr = s.ccr := by
  unfold readOf
  split
  · next p hp => rcases read8_next (v := p.1) (t := p.2) hp with h | h <;> rw [h]; rfl
  · rfl
  · rfl

/-! ## Operand forms -/

/-- A meaning that is `load8` of its effective address is an instruction that loads a byte. -/
theorem loads8_of_load8 {i : Instr} {ea : State → Word} {f : Byte → State → State}
    (h : ∀ s, exec i s = load8 (ea s) f s) : Loads8 i ea f := by
  intro s
  rw [h]
  exact ⟨fun hr => by rw [load8, read8_of_readable s hr, andThen_next],
    fun hr => by rw [load8, read8_of_not_readable s hr, andThen_fault]⟩

/-- A meaning that is `load16` of its effective address is an instruction that loads a word. -/
theorem loads16_of_load16 {i : Instr} {ea : State → Word} {f : Bool → Word → State → State} {g : Word → State → State}
    (h : ∀ s, exec i s = load16 (ea s) g s) (hg : ∀ w s, ∃ b, g w s = f b w s) : Loads16 i ea f := by
  intro s
  rw [h]
  refine ⟨?_, ?_, ?_⟩
  · rintro ⟨h1, h2⟩
    obtain ⟨b, hb⟩ := hg (readOf16 (ea s) s).1 (readOf16 (ea s) s).2
    refine ⟨b, ?_⟩
    simp only [load16, read16, read8_of_readable _ h1, read8_of_readable _ h2, andThen_next]
    rw [← hb]
    rfl
  · intro h1
    simp only [load16, read16, read8_of_not_readable _ h1, andThen_fault]
  · rintro ⟨h1, h2⟩
    simp only [load16, read16, read8_of_readable _ h1, read8_of_not_readable _ h2, andThen_next, andThen_fault]

/-- A meaning that is `rmw8` of its effective address is an instruction that modifies a byte. -/
theorem modifies8_of_rmw8 {i : Instr} {ea : State → Word} {f : Byte → Ccr → Byte × Ccr}
    (h : ∀ s, exec i s = rmw8 (ea s) f s) : Modifies8 i ea f := by
  intro s
  rw [h]
  refine ⟨?_, ?_, ?_⟩
  · intro h1
    have h1' : (ea s).toNat ≤ 0x8007 := h1
    have h2 : Readable (ea s) := Nat.le_trans h1' (by decide)
    simp only [rmw8, read8_of_readable _ h2, write8_of_writable _ _ h1, andThen_next, readOf_ccr]
    rfl
  · rintro ⟨h1, h2⟩
    simp only [rmw8, read8_of_readable _ h1, write8_of_input _ _ h1 h2, andThen_next, andThen_refused]
  · intro h1
    simp only [rmw8, read8_of_not_readable _ h1, andThen_fault]

/-- Advancing IX after a load is a load whose operation advances IX. -/
theorem postInc_load8 (n : Nat) (ea : Word) (f : Byte → State → State) (s : State) :
    postInc n (load8 ea f s) = load8 ea (fun v t => advanceIx (params.ixpStep n) (f v t)) s := by
  unfold postInc load8
  cases read8 ea s <;> rfl

theorem postInc_load16 (n : Nat) (ea : Word) (f : Word → State → State) (s : State) :
    postInc n (load16 ea f s) = load16 ea (fun w t => advanceIx (params.ixpStep n) (f w t)) s := by
  unfold postInc load16
  cases read16 ea s <;> rfl

/-- A DIR address lies in RAM, and so does the one after it. -/
theorem inRam_dirAddr (d : Byte) : InRam (dirAddr d) ∧ InRam (dirAddr d + 1) := by
  have := d.isLt
  constructor <;> simp [dirAddr] <;> omega

end Sys2Proof.Machine
end

