-- ==== Sys2Proof/Laws/PerInstr.lean ====
section
/-! SUPPORT. A property of every instruction, one lemma per constructor: the opcode byte alone says how many operand bytes
its encoding has (30_encoding.md R112, R122). -/

namespace Sys2Proof.Laws

/-- The encoding of a well-formed instruction has as many operand bytes as its opcode byte says (R122). -/
def EncodingLength.Statement (i : Instr) : Prop :=
  i.wf = true → ∃ op rest, encode i = op :: rest ∧ operandBytes op = some rest.length

theorem EncodingLength.nop : EncodingLength.Statement .nop := fun _ => ⟨_, _, rfl, by decide⟩

theorem EncodingLength.stop : EncodingLength.Statement .stop := fun _ => ⟨_, _, rfl, by decide⟩

theorem EncodingLength.dabnz (rel : Byte) : EncodingLength.Statement (.dabnz rel) := fun _ => ⟨_, _, rfl, rfl⟩

theorem EncodingLength.dbbnz (rel : Byte) : EncodingLength.Statement (.dbbnz rel) := fun _ => ⟨_, _, rfl, rfl⟩

theorem EncodingLength.brn (rel : Byte) : EncodingLength.Statement (.brn rel) := fun _ => ⟨_, _, rfl, rfl⟩

theorem EncodingLength.bra (rel : Byte) : EncodingLength.Statement (.bra rel) := fun _ => ⟨_, _, rfl, rfl⟩

theorem EncodingLength.bil (rel : Byte) : EncodingLength.Statement (.bil rel) := fun _ => ⟨_, _, rfl, rfl⟩

theorem EncodingLength.bih (rel : Byte) : EncodingLength.Statement (.bih rel) := fun _ => ⟨_, _, rfl, rfl⟩

theorem EncodingLength.idiv : EncodingLength.Statement .idiv := fun _ => ⟨_, _, rfl, by decide⟩

theorem EncodingLength.mul : EncodingLength.Statement .mul := fun _ => ⟨_, _, rfl, by decide⟩

theorem EncodingLength.clv : EncodingLength.Statement .clv := fun _ => ⟨_, _, rfl, by decide⟩

theorem EncodingLength.sev : EncodingLength.Statement .sev := fun _ => ⟨_, _, rfl, by decide⟩

theorem EncodingLength.clc : EncodingLength.Statement .clc := fun _ => ⟨_, _, rfl, by decide⟩

theorem EncodingLength.sec : EncodingLength.Statement .sec := fun _ => ⟨_, _, rfl, by decide⟩

theorem EncodingLength.cli : EncodingLength.Statement .cli := fun _ => ⟨_, _, rfl, by decide⟩

theorem EncodingLength.sei : EncodingLength.Statement .sei := fun _ => ⟨_, _, rfl, by decide⟩

theorem EncodingLength.bhcc (rel : Byte) : EncodingLength.Statement (.bhcc rel) := fun _ => ⟨_, _, rfl, rfl⟩

theorem EncodingLength.bhcs (rel : Byte) : EncodingLength.Statement (.bhcs rel) := fun _ => ⟨_, _, rfl, rfl⟩

theorem EncodingLength.bhi (rel : Byte) : EncodingLength.Statement (.bhi rel) := fun _ => ⟨_, _, rfl, rfl⟩

theorem EncodingLength.bls (rel : Byte) : EncodingLength.Statement (.bls rel) := fun _ => ⟨_, _, rfl, rfl⟩

theorem EncodingLength.bcc (rel : Byte) : EncodingLength.Statement (.bcc rel) := fun _ => ⟨_, _, rfl, rfl⟩

theorem EncodingLength.bcs (rel : Byte) : EncodingLength.Statement (.bcs rel) := fun _ => ⟨_, _, rfl, rfl⟩

theorem EncodingLength.bne (rel : Byte) : EncodingLength.Statement (.bne rel) := fun _ => ⟨_, _, rfl, rfl⟩

theorem EncodingLength.beq (rel : Byte) : EncodingLength.Statement (.beq rel) := fun _ => ⟨_, _, rfl, rfl⟩

theorem EncodingLength.bvc (rel : Byte) : EncodingLength.Statement (.bvc rel) := fun _ => ⟨_, _, rfl, rfl⟩

theorem EncodingLength.bvs (rel : Byte) : EncodingLength.Statement (.bvs rel) := fun _ => ⟨_, _, rfl, rfl⟩

theorem EncodingLength.bpl (rel : Byte) : EncodingLength.Statement (.bpl rel) := fun _ => ⟨_, _, rfl, rfl⟩

theorem EncodingLength.bmi (rel : Byte) : EncodingLength.Statement (.bmi rel) := fun _ => ⟨_, _, rfl, rfl⟩

theorem EncodingLength.bge (rel : Byte) : EncodingLength.Statement (.bge rel) := fun _ => ⟨_, _, rfl, rfl⟩

theorem EncodingLength.blt (rel : Byte) : EncodingLength.Statement (.blt rel) := fun _ => ⟨_, _, rfl, rfl⟩

theorem EncodingLength.bgt (rel : Byte) : EncodingLength.Statement (.bgt rel) := fun _ => ⟨_, _, rfl, rfl⟩

theorem EncodingLength.ble (rel : Byte) : EncodingLength.Statement (.ble rel) := fun _ => ⟨_, _, rfl, rfl⟩

theorem EncodingLength.tsx : EncodingLength.Statement .tsx := fun _ => ⟨_, _, rfl, by decide⟩

theorem EncodingLength.txs : EncodingLength.Statement .txs := fun _ => ⟨_, _, rfl, by decide⟩

theorem EncodingLength.ins : EncodingLength.Statement .ins := fun _ => ⟨_, _, rfl, by decide⟩

theorem EncodingLength.des : EncodingLength.Statement .des := fun _ => ⟨_, _, rfl, by decide⟩

theorem EncodingLength.inx : EncodingLength.Statement .inx := fun _ => ⟨_, _, rfl, by decide⟩

theorem EncodingLength.dex : EncodingLength.Statement .dex := fun _ => ⟨_, _, rfl, by decide⟩

theorem EncodingLength.pulx : EncodingLength.Statement .pulx := fun _ => ⟨_, _, rfl, by decide⟩

theorem EncodingLength.pshx : EncodingLength.Statement .pshx := fun _ => ⟨_, _, rfl, by decide⟩

theorem EncodingLength.pula : EncodingLength.Statement .pula := fun _ => ⟨_, _, rfl, by decide⟩

theorem EncodingLength.pulb : EncodingLength.Statement .pulb := fun _ => ⟨_, _, rfl, by decide⟩

theorem EncodingLength.psha : EncodingLength.Statement .psha := fun _ => ⟨_, _, rfl, by decide⟩

theorem EncodingLength.pshb : EncodingLength.Statement .pshb := fun _ => ⟨_, _, rfl, by decide⟩

theorem EncodingLength.rts : EncodingLength.Statement .rts := fun _ => ⟨_, _, rfl, by decide⟩

theorem EncodingLength.rti : EncodingLength.Statement .rti := fun _ => ⟨_, _, rfl, by decide⟩

theorem EncodingLength.wait : EncodingLength.Statement .wait := fun _ => ⟨_, _, rfl, by decide⟩

theorem EncodingLength.swi : EncodingLength.Statement .swi := fun _ => ⟨_, _, rfl, by decide⟩

theorem EncodingLength.nega : EncodingLength.Statement .nega := fun _ => ⟨_, _, rfl, by decide⟩

theorem EncodingLength.clra : EncodingLength.Statement .clra := fun _ => ⟨_, _, rfl, by decide⟩

theorem EncodingLength.inca : EncodingLength.Statement .inca := fun _ => ⟨_, _, rfl, by decide⟩

theorem EncodingLength.deca : EncodingLength.Statement .deca := fun _ => ⟨_, _, rfl, by decide⟩

theorem EncodingLength.lsra : EncodingLength.Statement .lsra := fun _ => ⟨_, _, rfl, by decide⟩

theorem EncodingLength.rora : EncodingLength.Statement .rora := fun _ => ⟨_, _, rfl, by decide⟩

theorem EncodingLength.asra : EncodingLength.Statement .asra := fun _ => ⟨_, _, rfl, by decide⟩

theorem EncodingLength.lsla : EncodingLength.Statement .lsla := fun _ => ⟨_, _, rfl, by decide⟩

theorem EncodingLength.rola : EncodingLength.Statement .rola := fun _ => ⟨_, _, rfl, by decide⟩

theorem EncodingLength.tsta : EncodingLength.Statement .tsta := fun _ => ⟨_, _, rfl, by decide⟩

theorem EncodingLength.tdx : EncodingLength.Statement .tdx := fun _ => ⟨_, _, rfl, by decide⟩

theorem EncodingLength.tba : EncodingLength.Statement .tba := fun _ => ⟨_, _, rfl, by decide⟩

theorem EncodingLength.sba : EncodingLength.Statement .sba := fun _ => ⟨_, _, rfl, by decide⟩

theorem EncodingLength.aba : EncodingLength.Statement .aba := fun _ => ⟨_, _, rfl, by decide⟩

theorem EncodingLength.negb : EncodingLength.Statement .negb := fun _ => ⟨_, _, rfl, by decide⟩

theorem EncodingLength.clrb : EncodingLength.Statement .clrb := fun _ => ⟨_, _, rfl, by decide⟩

theorem EncodingLength.incb : EncodingLength.Statement .incb := fun _ => ⟨_, _, rfl, by decide⟩

theorem EncodingLength.decb : EncodingLength.Statement .decb := fun _ => ⟨_, _, rfl, by decide⟩

theorem EncodingLength.lsrb : EncodingLength.Statement .lsrb := fun _ => ⟨_, _, rfl, by decide⟩

theorem EncodingLength.rorb : EncodingLength.Statement .rorb := fun _ => ⟨_, _, rfl, by decide⟩

theorem EncodingLength.asrb : EncodingLength.Statement .asrb := fun _ => ⟨_, _, rfl, by decide⟩

theorem EncodingLength.lslb : EncodingLength.Statement .lslb := fun _ => ⟨_, _, rfl, by decide⟩

theorem EncodingLength.rolb : EncodingLength.Statement .rolb := fun _ => ⟨_, _, rfl, by decide⟩

theorem EncodingLength.tstb : EncodingLength.Statement .tstb := fun _ => ⟨_, _, rfl, by decide⟩

theorem EncodingLength.tab : EncodingLength.Statement .tab := fun _ => ⟨_, _, rfl, by decide⟩

theorem EncodingLength.cba : EncodingLength.Statement .cba := fun _ => ⟨_, _, rfl, by decide⟩

theorem EncodingLength.negIx (off : Byte) : EncodingLength.Statement (.negIx off) := fun _ => ⟨_, _, rfl, rfl⟩

theorem EncodingLength.clrIx (off : Byte) : EncodingLength.Statement (.clrIx off) := fun _ => ⟨_, _, rfl, rfl⟩

theorem EncodingLength.incIx (off : Byte) : EncodingLength.Statement (.incIx off) := fun _ => ⟨_, _, rfl, rfl⟩

theorem EncodingLength.decIx (off : Byte) : EncodingLength.Statement (.decIx off) := fun _ => ⟨_, _, rfl, rfl⟩

theorem EncodingLength.lsrIx (off : Byte) : EncodingLength.Statement (.lsrIx off) := fun _ => ⟨_, _, rfl, rfl⟩

theorem EncodingLength.rorIx (off : Byte) : EncodingLength.Statement (.rorIx off) := fun _ => ⟨_, _, rfl, rfl⟩

theorem EncodingLength.asrIx (off : Byte) : EncodingLength.Statement (.asrIx off) := fun _ => ⟨_, _, rfl, rfl⟩

theorem EncodingLength.lslIx (off : Byte) : EncodingLength.Statement (.lslIx off) := fun _ => ⟨_, _, rfl, rfl⟩

theorem EncodingLength.rolIx (off : Byte) : EncodingLength.Statement (.rolIx off) := fun _ => ⟨_, _, rfl, rfl⟩

theorem EncodingLength.tstIx (off : Byte) : EncodingLength.Statement (.tstIx off) := fun _ => ⟨_, _, rfl, rfl⟩

theorem EncodingLength.brsetIx (off : Byte) (m : Byte) (rel : Byte) : EncodingLength.Statement (.brsetIx off m rel) := fun _ => ⟨_, _, rfl, rfl⟩

theorem EncodingLength.brclrIx (off : Byte) (m : Byte) (rel : Byte) : EncodingLength.Statement (.brclrIx off m rel) := fun _ => ⟨_, _, rfl, rfl⟩

theorem EncodingLength.bclrIx (off : Byte) (m : Byte) : EncodingLength.Statement (.bclrIx off m) := fun _ => ⟨_, _, rfl, rfl⟩

theorem EncodingLength.bsetIx (off : Byte) (m : Byte) : EncodingLength.Statement (.bsetIx off m) := fun _ => ⟨_, _, rfl, rfl⟩

theorem EncodingLength.movIx (off : Byte) (m : Byte) : EncodingLength.Statement (.movIx off m) := fun _ => ⟨_, _, rfl, rfl⟩

theorem EncodingLength.jmpIx (off : Byte) : EncodingLength.Statement (.jmpIx off) := fun _ => ⟨_, _, rfl, rfl⟩

theorem EncodingLength.negExt (addr : Word) : EncodingLength.Statement (.negExt addr) := fun _ => ⟨_, _, rfl, rfl⟩

theorem EncodingLength.clrExt (addr : Word) : EncodingLength.Statement (.clrExt addr) := fun _ => ⟨_, _, rfl, rfl⟩

theorem EncodingLength.incExt (addr : Word) : EncodingLength.Statement (.incExt addr) := fun _ => ⟨_, _, rfl, rfl⟩

theorem EncodingLength.decExt (addr : Word) : EncodingLength.Statement (.decExt addr) := fun _ => ⟨_, _, rfl, rfl⟩

theorem EncodingLength.lsrExt (addr : Word) : EncodingLength.Statement (.lsrExt addr) := fun _ => ⟨_, _, rfl, rfl⟩

theorem EncodingLength.rorExt (addr : Word) : EncodingLength.Statement (.rorExt addr) := fun _ => ⟨_, _, rfl, rfl⟩

theorem EncodingLength.asrExt (addr : Word) : EncodingLength.Statement (.asrExt addr) := fun _ => ⟨_, _, rfl, rfl⟩

theorem EncodingLength.lslExt (addr : Word) : EncodingLength.Statement (.lslExt addr) := fun _ => ⟨_, _, rfl, rfl⟩

theorem EncodingLength.rolExt (addr : Word) : EncodingLength.Statement (.rolExt addr) := fun _ => ⟨_, _, rfl, rfl⟩

theorem EncodingLength.tstExt (addr : Word) : EncodingLength.Statement (.tstExt addr) := fun _ => ⟨_, _, rfl, rfl⟩

theorem EncodingLength.brsetExt (addr : Word) (m : Byte) (rel : Byte) : EncodingLength.Statement (.brsetExt addr m rel) := fun _ => ⟨_, _, rfl, rfl⟩

theorem EncodingLength.brclrExt (addr : Word) (m : Byte) (rel : Byte) : EncodingLength.Statement (.brclrExt addr m rel) := fun _ => ⟨_, _, rfl, rfl⟩

theorem EncodingLength.bclrExt (addr : Word) (m : Byte) : EncodingLength.Statement (.bclrExt addr m) := fun _ => ⟨_, _, rfl, rfl⟩

theorem EncodingLength.bsetExt (addr : Word) (m : Byte) : EncodingLength.Statement (.bsetExt addr m) := fun _ => ⟨_, _, rfl, rfl⟩

theorem EncodingLength.movExt (addr : Word) (m : Byte) : EncodingLength.Statement (.movExt addr m) := fun _ => ⟨_, _, rfl, rfl⟩

theorem EncodingLength.jmpExt (addr : Word) : EncodingLength.Statement (.jmpExt addr) := fun _ => ⟨_, _, rfl, rfl⟩

theorem EncodingLength.subaIxp (off : Option Byte) : EncodingLength.Statement (.subaIxp off) := by
  intro h
  cases off with
  | none => exact ⟨_, _, rfl, by decide⟩
  | some o => exact absurd h (by simp [Instr.wf, ixpWf, params])

theorem EncodingLength.sbcaIxp (off : Option Byte) : EncodingLength.Statement (.sbcaIxp off) := by
  intro h
  cases off with
  | none => exact ⟨_, _, rfl, by decide⟩
  | some o => exact absurd h (by simp [Instr.wf, ixpWf, params])

theorem EncodingLength.addaIxp (off : Option Byte) : EncodingLength.Statement (.addaIxp off) := by
  intro h
  cases off with
  | none => exact ⟨_, _, rfl, by decide⟩
  | some o => exact absurd h (by simp [Instr.wf, ixpWf, params])

theorem EncodingLength.andaIxp (off : Option Byte) : EncodingLength.Statement (.andaIxp off) := by
  intro h
  cases off with
  | none => exact ⟨_, _, rfl, by decide⟩
  | some o => exact absurd h (by simp [Instr.wf, ixpWf, params])

theorem EncodingLength.ldaaIxp (off : Option Byte) : EncodingLength.Statement (.ldaaIxp off) := by
  intro h
  cases off with
  | none => exact ⟨_, _, rfl, by decide⟩
  | some o => exact absurd h (by simp [Instr.wf, ixpWf, params])

theorem EncodingLength.oraaIxp (off : Option Byte) : EncodingLength.Statement (.oraaIxp off) := by
  intro h
  cases off with
  | none => exact ⟨_, _, rfl, by decide⟩
  | some o => exact absurd h (by simp [Instr.wf, ixpWf, params])

theorem EncodingLength.eoraIxp (off : Option Byte) : EncodingLength.Statement (.eoraIxp off) := by
  intro h
  cases off with
  | none => exact ⟨_, _, rfl, by decide⟩
  | some o => exact absurd h (by simp [Instr.wf, ixpWf, params])

theorem EncodingLength.adcaIxp (off : Option Byte) : EncodingLength.Statement (.adcaIxp off) := by
  intro h
  cases off with
  | none => exact ⟨_, _, rfl, by decide⟩
  | some o => exact absurd h (by simp [Instr.wf, ixpWf, params])

theorem EncodingLength.cmpaIxp (off : Option Byte) : EncodingLength.Statement (.cmpaIxp off) := by
  intro h
  cases off with
  | none => exact ⟨_, _, rfl, by decide⟩
  | some o => exact absurd h (by simp [Instr.wf, ixpWf, params])

theorem EncodingLength.bitaIxp (off : Option Byte) : EncodingLength.Statement (.bitaIxp off) := by
  intro h
  cases off with
  | none => exact ⟨_, _, rfl, by decide⟩
  | some o => exact absurd h (by simp [Instr.wf, ixpWf, params])

theorem EncodingLength.staaIxp (off : Option Byte) : EncodingLength.Statement (.staaIxp off) := by
  intro h
  cases off with
  | none => exact ⟨_, _, rfl, by decide⟩
  | some o => exact absurd h (by simp [Instr.wf, ixpWf, params])

theorem EncodingLength.subdIxp (off : Option Byte) : EncodingLength.Statement (.subdIxp off) := by
  intro h
  cases off with
  | none => exact ⟨_, _, rfl, by decide⟩
  | some o => exact absurd h (by simp [Instr.wf, ixpWf, params])

theorem EncodingLength.cpdIxp (off : Option Byte) : EncodingLength.Statement (.cpdIxp off) := by
  intro h
  cases off with
  | none => exact ⟨_, _, rfl, by decide⟩
  | some o => exact absurd h (by simp [Instr.wf, ixpWf, params])

theorem EncodingLength.adddIxp (off : Option Byte) : EncodingLength.Statement (.adddIxp off) := by
  intro h
  cases off with
  | none => exact ⟨_, _, rfl, by decide⟩
  | some o => exact absurd h (by simp [Instr.wf, ixpWf, params])

theorem EncodingLength.subaImm (v : Byte) : EncodingLength.Statement (.subaImm v) := fun _ => ⟨_, _, rfl, rfl⟩

theorem EncodingLength.sbcaImm (v : Byte) : EncodingLength.Statement (.sbcaImm v) := fun _ => ⟨_, _, rfl, rfl⟩

theorem EncodingLength.addaImm (v : Byte) : EncodingLength.Statement (.addaImm v) := fun _ => ⟨_, _, rfl, rfl⟩

theorem EncodingLength.andaImm (v : Byte) : EncodingLength.Statement (.andaImm v) := fun _ => ⟨_, _, rfl, rfl⟩

theorem EncodingLength.ldaaImm (v : Byte) : EncodingLength.Statement (.ldaaImm v) := fun _ => ⟨_, _, rfl, rfl⟩

theorem EncodingLength.oraaImm (v : Byte) : EncodingLength.Statement (.oraaImm v) := fun _ => ⟨_, _, rfl, rfl⟩

theorem EncodingLength.eoraImm (v : Byte) : EncodingLength.Statement (.eoraImm v) := fun _ => ⟨_, _, rfl, rfl⟩

theorem EncodingLength.adcaImm (v : Byte) : EncodingLength.Statement (.adcaImm v) := fun _ => ⟨_, _, rfl, rfl⟩

theorem EncodingLength.cmpaImm (v : Byte) : EncodingLength.Statement (.cmpaImm v) := fun _ => ⟨_, _, rfl, rfl⟩

theorem EncodingLength.bitaImm (v : Byte) : EncodingLength.Statement (.bitaImm v) := fun _ => ⟨_, _, rfl, rfl⟩

theorem EncodingLength.ais (imm : Byte) : EncodingLength.Statement (.ais imm) := fun _ => ⟨_, _, rfl, rfl⟩

theorem EncodingLength.ldsImm (w : Word) : EncodingLength.Statement (.ldsImm w) := fun _ => ⟨_, _, rfl, rfl⟩

theorem EncodingLength.subdImm (w : Word) : EncodingLength.Statement (.subdImm w) := fun _ => ⟨_, _, rfl, rfl⟩

theorem EncodingLength.adddImm (w : Word) : EncodingLength.Statement (.adddImm w) := fun _ => ⟨_, _, rfl, rfl⟩

theorem EncodingLength.subaDir (addr : Byte) : EncodingLength.Statement (.subaDir addr) := fun _ => ⟨_, _, rfl, rfl⟩

theorem EncodingLength.sbcaDir (addr : Byte) : EncodingLength.Statement (.sbcaDir addr) := fun _ => ⟨_, _, rfl, rfl⟩

theorem EncodingLength.addaDir (addr : Byte) : EncodingLength.Statement (.addaDir addr) := fun _ => ⟨_, _, rfl, rfl⟩

theorem EncodingLength.andaDir (addr : Byte) : EncodingLength.Statement (.andaDir addr) := fun _ => ⟨_, _, rfl, rfl⟩

theorem EncodingLength.ldaaDir (addr : Byte) : EncodingLength.Statement (.ldaaDir addr) := fun _ => ⟨_, _, rfl, rfl⟩

theorem EncodingLength.oraaDir (addr : Byte) : EncodingLength.Statement (.oraaDir addr) := fun _ => ⟨_, _, rfl, rfl⟩

theorem EncodingLength.eoraDir (addr : Byte) : EncodingLength.Statement (.eoraDir addr) := fun _ => ⟨_, _, rfl, rfl⟩

theorem EncodingLength.adcaDir (addr : Byte) : EncodingLength.Statement (.adcaDir addr) := fun _ => ⟨_, _, rfl, rfl⟩

theorem EncodingLength.cmpaDir (addr : Byte) : EncodingLength.Statement (.cmpaDir addr) := fun _ => ⟨_, _, rfl, rfl⟩

theorem EncodingLength.bitaDir (addr : Byte) : EncodingLength.Statement (.bitaDir addr) := fun _ => ⟨_, _, rfl, rfl⟩

theorem EncodingLength.staaDir (addr : Byte) : EncodingLength.Statement (.staaDir addr) := fun _ => ⟨_, _, rfl, rfl⟩

theorem EncodingLength.stsDir (addr : Byte) : EncodingLength.Statement (.stsDir addr) := fun _ => ⟨_, _, rfl, rfl⟩

theorem EncodingLength.stdDir (addr : Byte) : EncodingLength.Statement (.stdDir addr) := fun _ => ⟨_, _, rfl, rfl⟩

theorem EncodingLength.ldsDir (addr : Byte) : EncodingLength.Statement (.ldsDir addr) := fun _ => ⟨_, _, rfl, rfl⟩

theorem EncodingLength.subdDir (addr : Byte) : EncodingLength.Statement (.subdDir addr) := fun _ => ⟨_, _, rfl, rfl⟩

theorem EncodingLength.adddDir (addr : Byte) : EncodingLength.Statement (.adddDir addr) := fun _ => ⟨_, _, rfl, rfl⟩

theorem EncodingLength.subaIx (off : Byte) : EncodingLength.Statement (.subaIx off) := fun _ => ⟨_, _, rfl, rfl⟩

theorem EncodingLength.sbcaIx (off : Byte) : EncodingLength.Statement (.sbcaIx off) := fun _ => ⟨_, _, rfl, rfl⟩

theorem EncodingLength.addaIx (off : Byte) : EncodingLength.Statement (.addaIx off) := fun _ => ⟨_, _, rfl, rfl⟩

theorem EncodingLength.andaIx (off : Byte) : EncodingLength.Statement (.andaIx off) := fun _ => ⟨_, _, rfl, rfl⟩

theorem EncodingLength.ldaaIx (off : Byte) : EncodingLength.Statement (.ldaaIx off) := fun _ => ⟨_, _, rfl, rfl⟩

theorem EncodingLength.oraaIx (off : Byte) : EncodingLength.Statement (.oraaIx off) := fun _ => ⟨_, _, rfl, rfl⟩

theorem EncodingLength.eoraIx (off : Byte) : EncodingLength.Statement (.eoraIx off) := fun _ => ⟨_, _, rfl, rfl⟩

theorem EncodingLength.adcaIx (off : Byte) : EncodingLength.Statement (.adcaIx off) := fun _ => ⟨_, _, rfl, rfl⟩

theorem EncodingLength.cmpaIx (off : Byte) : EncodingLength.Statement (.cmpaIx off) := fun _ => ⟨_, _, rfl, rfl⟩

theorem EncodingLength.bitaIx (off : Byte) : EncodingLength.Statement (.bitaIx off) := fun _ => ⟨_, _, rfl, rfl⟩

theorem EncodingLength.staaIx (off : Byte) : EncodingLength.Statement (.staaIx off) := fun _ => ⟨_, _, rfl, rfl⟩

theorem EncodingLength.stsIx (off : Byte) : EncodingLength.Statement (.stsIx off) := fun _ => ⟨_, _, rfl, rfl⟩

theorem EncodingLength.stdIx (off : Byte) : EncodingLength.Statement (.stdIx off) := fun _ => ⟨_, _, rfl, rfl⟩

theorem EncodingLength.ldsIx (off : Byte) : EncodingLength.Statement (.ldsIx off) := fun _ => ⟨_, _, rfl, rfl⟩

theorem EncodingLength.subdIx (off : Byte) : EncodingLength.Statement (.subdIx off) := fun _ => ⟨_, _, rfl, rfl⟩

theorem EncodingLength.adddIx (off : Byte) : EncodingLength.Statement (.adddIx off) := fun _ => ⟨_, _, rfl, rfl⟩

theorem EncodingLength.subaExt (addr : Word) : EncodingLength.Statement (.subaExt addr) := fun _ => ⟨_, _, rfl, rfl⟩

theorem EncodingLength.sbcaExt (addr : Word) : EncodingLength.Statement (.sbcaExt addr) := fun _ => ⟨_, _, rfl, rfl⟩

theorem EncodingLength.addaExt (addr : Word) : EncodingLength.Statement (.addaExt addr) := fun _ => ⟨_, _, rfl, rfl⟩

theorem EncodingLength.andaExt (addr : Word) : EncodingLength.Statement (.andaExt addr) := fun _ => ⟨_, _, rfl, rfl⟩

theorem EncodingLength.ldaaExt (addr : Word) : EncodingLength.Statement (.ldaaExt addr) := fun _ => ⟨_, _, rfl, rfl⟩

theorem EncodingLength.oraaExt (addr : Word) : EncodingLength.Statement (.oraaExt addr) := fun _ => ⟨_, _, rfl, rfl⟩

theorem EncodingLength.eoraExt (addr : Word) : EncodingLength.Statement (.eoraExt addr) := fun _ => ⟨_, _, rfl, rfl⟩

theorem EncodingLength.adcaExt (addr : Word) : EncodingLength.Statement (.adcaExt addr) := fun _ => ⟨_, _, rfl, rfl⟩

theorem EncodingLength.cmpaExt (addr : Word) : EncodingLength.Statement (.cmpaExt addr) := fun _ => ⟨_, _, rfl, rfl⟩

theorem EncodingLength.bitaExt (addr : Word) : EncodingLength.Statement (.bitaExt addr) := fun _ => ⟨_, _, rfl, rfl⟩

theorem EncodingLength.staaExt (addr : Word) : EncodingLength.Statement (.staaExt addr) := fun _ => ⟨_, _, rfl, rfl⟩

theorem EncodingLength.stsExt (addr : Word) : EncodingLength.Statement (.stsExt addr) := fun _ => ⟨_, _, rfl, rfl⟩

theorem EncodingLength.stdExt (addr : Word) : EncodingLength.Statement (.stdExt addr) := fun _ => ⟨_, _, rfl, rfl⟩

theorem EncodingLength.ldsExt (addr : Word) : EncodingLength.Statement (.ldsExt addr) := fun _ => ⟨_, _, rfl, rfl⟩

theorem EncodingLength.subdExt (addr : Word) : EncodingLength.Statement (.subdExt addr) := fun _ => ⟨_, _, rfl, rfl⟩

theorem EncodingLength.adddExt (addr : Word) : EncodingLength.Statement (.adddExt addr) := fun _ => ⟨_, _, rfl, rfl⟩

theorem EncodingLength.subbImm (v : Byte) : EncodingLength.Statement (.subbImm v) := fun _ => ⟨_, _, rfl, rfl⟩

theorem EncodingLength.sbcbImm (v : Byte) : EncodingLength.Statement (.sbcbImm v) := fun _ => ⟨_, _, rfl, rfl⟩

theorem EncodingLength.addbImm (v : Byte) : EncodingLength.Statement (.addbImm v) := fun _ => ⟨_, _, rfl, rfl⟩

theorem EncodingLength.andbImm (v : Byte) : EncodingLength.Statement (.andbImm v) := fun _ => ⟨_, _, rfl, rfl⟩

theorem EncodingLength.ldabImm (v : Byte) : EncodingLength.Statement (.ldabImm v) := fun _ => ⟨_, _, rfl, rfl⟩

theorem EncodingLength.orabImm (v : Byte) : EncodingLength.Statement (.orabImm v) := fun _ => ⟨_, _, rfl, rfl⟩

theorem EncodingLength.eorbImm (v : Byte) : EncodingLength.Statement (.eorbImm v) := fun _ => ⟨_, _, rfl, rfl⟩

theorem EncodingLength.adcbImm (v : Byte) : EncodingLength.Statement (.adcbImm v) := fun _ => ⟨_, _, rfl, rfl⟩

theorem EncodingLength.cmpbImm (v : Byte) : EncodingLength.Statement (.cmpbImm v) := fun _ => ⟨_, _, rfl, rfl⟩

theorem EncodingLength.bsr (rel : Byte) : EncodingLength.Statement (.bsr rel) := fun _ => ⟨_, _, rfl, rfl⟩

theorem EncodingLength.aix (imm : Byte) : EncodingLength.Statement (.aix imm) := fun _ => ⟨_, _, rfl, rfl⟩

theorem EncodingLength.cpxImm (w : Word) : EncodingLength.Statement (.cpxImm w) := fun _ => ⟨_, _, rfl, rfl⟩

theorem EncodingLength.ldxImm (w : Word) : EncodingLength.Statement (.ldxImm w) := fun _ => ⟨_, _, rfl, rfl⟩

theorem EncodingLength.cpdImm (w : Word) : EncodingLength.Statement (.cpdImm w) := fun _ => ⟨_, _, rfl, rfl⟩

theorem EncodingLength.lddImm (w : Word) : EncodingLength.Statement (.lddImm w) := fun _ => ⟨_, _, rfl, rfl⟩

theorem EncodingLength.subbDir (addr : Byte) : EncodingLength.Statement (.subbDir addr) := fun _ => ⟨_, _, rfl, rfl⟩

theorem EncodingLength.sbcbDir (addr : Byte) : EncodingLength.Statement (.sbcbDir addr) := fun _ => ⟨_, _, rfl, rfl⟩

theorem EncodingLength.addbDir (addr : Byte) : EncodingLength.Statement (.addbDir addr) := fun _ => ⟨_, _, rfl, rfl⟩

theorem EncodingLength.andbDir (addr : Byte) : EncodingLength.Statement (.andbDir addr) := fun _ => ⟨_, _, rfl, rfl⟩

theorem EncodingLength.ldabDir (addr : Byte) : EncodingLength.Statement (.ldabDir addr) := fun _ => ⟨_, _, rfl, rfl⟩

theorem EncodingLength.orabDir (addr : Byte) : EncodingLength.Statement (.orabDir addr) := fun _ => ⟨_, _, rfl, rfl⟩

theorem EncodingLength.eorbDir (addr : Byte) : EncodingLength.Statement (.eorbDir addr) := fun _ => ⟨_, _, rfl, rfl⟩

theorem EncodingLength.adcbDir (addr : Byte) : EncodingLength.Statement (.adcbDir addr) := fun _ => ⟨_, _, rfl, rfl⟩

theorem EncodingLength.cmpbDir (addr : Byte) : EncodingLength.Statement (.cmpbDir addr) := fun _ => ⟨_, _, rfl, rfl⟩

theorem EncodingLength.jsrDir (addr : Byte) : EncodingLength.Statement (.jsrDir addr) := fun _ => ⟨_, _, rfl, rfl⟩

theorem EncodingLength.stabDir (addr : Byte) : EncodingLength.Statement (.stabDir addr) := fun _ => ⟨_, _, rfl, rfl⟩

theorem EncodingLength.stxDir (addr : Byte) : EncodingLength.Statement (.stxDir addr) := fun _ => ⟨_, _, rfl, rfl⟩

theorem EncodingLength.cpxDir (addr : Byte) : EncodingLength.Statement (.cpxDir addr) := fun _ => ⟨_, _, rfl, rfl⟩

theorem EncodingLength.ldxDir (addr : Byte) : EncodingLength.Statement (.ldxDir addr) := fun _ => ⟨_, _, rfl, rfl⟩

theorem EncodingLength.cpdDir (addr : Byte) : EncodingLength.Statement (.cpdDir addr) := fun _ => ⟨_, _, rfl, rfl⟩

theorem EncodingLength.lddDir (addr : Byte) : EncodingLength.Statement (.lddDir addr) := fun _ => ⟨_, _, rfl, rfl⟩

theorem EncodingLength.subbIx (off : Byte) : EncodingLength.Statement (.subbIx off) := fun _ => ⟨_, _, rfl, rfl⟩

theorem EncodingLength.sbcbIx (off : Byte) : EncodingLength.Statement (.sbcbIx off) := fun _ => ⟨_, _, rfl, rfl⟩

theorem EncodingLength.addbIx (off : Byte) : EncodingLength.Statement (.addbIx off) := fun _ => ⟨_, _, rfl, rfl⟩

theorem EncodingLength.andbIx (off : Byte) : EncodingLength.Statement (.andbIx off) := fun _ => ⟨_, _, rfl, rfl⟩

theorem EncodingLength.ldabIx (off : Byte) : EncodingLength.Statement (.ldabIx off) := fun _ => ⟨_, _, rfl, rfl⟩

theorem EncodingLength.orabIx (off : Byte) : EncodingLength.Statement (.orabIx off) := fun _ => ⟨_, _, rfl, rfl⟩

theorem EncodingLength.eorbIx (off : Byte) : EncodingLength.Statement (.eorbIx off) := fun _ => ⟨_, _, rfl, rfl⟩

theorem EncodingLength.adcbIx (off : Byte) : EncodingLength.Statement (.adcbIx off) := fun _ => ⟨_, _, rfl, rfl⟩

theorem EncodingLength.cmpbIx (off : Byte) : EncodingLength.Statement (.cmpbIx off) := fun _ => ⟨_, _, rfl, rfl⟩

theorem EncodingLength.jsrIx (off : Byte) : EncodingLength.Statement (.jsrIx off) := fun _ => ⟨_, _, rfl, rfl⟩

theorem EncodingLength.stabIx (off : Byte) : EncodingLength.Statement (.stabIx off) := fun _ => ⟨_, _, rfl, rfl⟩

theorem EncodingLength.stxIx (off : Byte) : EncodingLength.Statement (.stxIx off) := fun _ => ⟨_, _, rfl, rfl⟩

theorem EncodingLength.cpxIx (off : Byte) : EncodingLength.Statement (.cpxIx off) := fun _ => ⟨_, _, rfl, rfl⟩

theorem EncodingLength.ldxIx (off : Byte) : EncodingLength.Statement (.ldxIx off) := fun _ => ⟨_, _, rfl, rfl⟩

theorem EncodingLength.cpdIx (off : Byte) : EncodingLength.Statement (.cpdIx off) := fun _ => ⟨_, _, rfl, rfl⟩

theorem EncodingLength.lddIx (off : Byte) : EncodingLength.Statement (.lddIx off) := fun _ => ⟨_, _, rfl, rfl⟩

theorem EncodingLength.subbExt (addr : Word) : EncodingLength.Statement (.subbExt addr) := fun _ => ⟨_, _, rfl, rfl⟩

theorem EncodingLength.sbcbExt (addr : Word) : EncodingLength.Statement (.sbcbExt addr) := fun _ => ⟨_, _, rfl, rfl⟩

theorem EncodingLength.addbExt (addr : Word) : EncodingLength.Statement (.addbExt addr) := fun _ => ⟨_, _, rfl, rfl⟩

theorem EncodingLength.andbExt (addr : Word) : EncodingLength.Statement (.andbExt addr) := fun _ => ⟨_, _, rfl, rfl⟩

theorem EncodingLength.ldabExt (addr : Word) : EncodingLength.Statement (.ldabExt addr) := fun _ => ⟨_, _, rfl, rfl⟩

theorem EncodingLength.orabExt (addr : Word) : EncodingLength.Statement (.orabExt addr) := fun _ => ⟨_, _, rfl, rfl⟩

theorem EncodingLength.eorbExt (addr : Word) : EncodingLength.Statement (.eorbExt addr) := fun _ => ⟨_, _, rfl, rfl⟩

theorem EncodingLength.adcbExt (addr : Word) : EncodingLength.Statement (.adcbExt addr) := fun _ => ⟨_, _, rfl, rfl⟩

theorem EncodingLength.cmpbExt (addr : Word) : EncodingLength.Statement (.cmpbExt addr) := fun _ => ⟨_, _, rfl, rfl⟩

theorem EncodingLength.jsrExt (addr : Word) : EncodingLength.Statement (.jsrExt addr) := fun _ => ⟨_, _, rfl, rfl⟩

theorem EncodingLength.stabExt (addr : Word) : EncodingLength.Statement (.stabExt addr) := fun _ => ⟨_, _, rfl, rfl⟩

theorem EncodingLength.stxExt (addr : Word) : EncodingLength.Statement (.stxExt addr) := fun _ => ⟨_, _, rfl, rfl⟩

theorem EncodingLength.cpxExt (addr : Word) : EncodingLength.Statement (.cpxExt addr) := fun _ => ⟨_, _, rfl, rfl⟩

theorem EncodingLength.ldxExt (addr : Word) : EncodingLength.Statement (.ldxExt addr) := fun _ => ⟨_, _, rfl, rfl⟩

theorem EncodingLength.cpdExt (addr : Word) : EncodingLength.Statement (.cpdExt addr) := fun _ => ⟨_, _, rfl, rfl⟩

theorem EncodingLength.lddExt (addr : Word) : EncodingLength.Statement (.lddExt addr) := fun _ => ⟨_, _, rfl, rfl⟩

end Sys2Proof.Laws
end

