-- ==== Sys2Proof/Tests/Slice0.lean ====
section
/-! SUPPORT. Tests: the well-formedness check on ill-formed terms, every constructor's decoding on a word written out from the
opcode map (30_encoding.md R100, R112), one step on vectors of 95_test_vectors.md, and for each statement with hypotheses a
concrete state and operands that meet them. -/

namespace Sys2Proof.Tests

open Sys2Proof.Machine Sys2Proof.Safety

/-! ## Well-formedness -/

theorem test_wf_refuses_an_ixp_offset_byte :
    ∀ i ∈ [.subaIxp (some 3), .sbcaIxp (some 3), .addaIxp (some 3), .andaIxp (some 3),
      .ldaaIxp (some 3), .oraaIxp (some 3), .eoraIxp (some 3), .adcaIxp (some 3),
      .cmpaIxp (some 3), .bitaIxp (some 3), .staaIxp (some 3), .subdIxp (some 3),
      .cpdIxp (some 3), .adddIxp (some 3), (.adddIxp (some 0) : Instr)],
      i.wf = false := by decide

theorem test_wf_accepts_ixp_without_offset : (Instr.subaIxp none).wf = true := by decide

/-! ## Decoding: each column of the map, operand bytes 12, 34, 56, 78 -/

theorem test_decode_column_0 :
    decode [0x00] = .ok .nop [] ∧ decode [0x01] = .ok .stop [] ∧ decode [0x02, 0x12] = .ok (.dabnz 0x12) [] ∧
    decode [0x03, 0x12] = .ok (.dbbnz 0x12) [] ∧ decode [0x04, 0x12] = .ok (.brn 0x12) [] ∧
    decode [0x05, 0x12] = .ok (.bra 0x12) [] ∧ decode [0x06, 0x12] = .ok (.bil 0x12) [] ∧
    decode [0x07, 0x12] = .ok (.bih 0x12) [] ∧ decode [0x08] = .ok .idiv [] ∧ decode [0x09] = .ok .mul [] ∧
    decode [0x0A] = .ok .clv [] ∧ decode [0x0B] = .ok .sev [] ∧ decode [0x0C] = .ok .clc [] ∧
    decode [0x0D] = .ok .sec [] ∧ decode [0x0E] = .ok .cli [] ∧ decode [0x0F] = .ok .sei [] := by
  and_intros <;> rfl

theorem test_decode_column_1 :
    decode [0x10, 0x12] = .ok (.bhcc 0x12) [] ∧ decode [0x11, 0x12] = .ok (.bhcs 0x12) [] ∧
    decode [0x12, 0x12] = .ok (.bhi 0x12) [] ∧ decode [0x13, 0x12] = .ok (.bls 0x12) [] ∧
    decode [0x14, 0x12] = .ok (.bcc 0x12) [] ∧ decode [0x15, 0x12] = .ok (.bcs 0x12) [] ∧
    decode [0x16, 0x12] = .ok (.bne 0x12) [] ∧ decode [0x17, 0x12] = .ok (.beq 0x12) [] ∧
    decode [0x18, 0x12] = .ok (.bvc 0x12) [] ∧ decode [0x19, 0x12] = .ok (.bvs 0x12) [] ∧
    decode [0x1A, 0x12] = .ok (.bpl 0x12) [] ∧ decode [0x1B, 0x12] = .ok (.bmi 0x12) [] ∧
    decode [0x1C, 0x12] = .ok (.bge 0x12) [] ∧ decode [0x1D, 0x12] = .ok (.blt 0x12) [] ∧
    decode [0x1E, 0x12] = .ok (.bgt 0x12) [] ∧ decode [0x1F, 0x12] = .ok (.ble 0x12) [] := by
  and_intros <;> rfl

theorem test_decode_column_2 :
    decode [0x20] = .ok .tsx [] ∧ decode [0x21] = .ok .txs [] ∧ decode [0x22] = .ok .ins [] ∧
    decode [0x23] = .ok .des [] ∧ decode [0x24] = .ok .inx [] ∧ decode [0x25] = .ok .dex [] ∧
    decode [0x26] = .ok .pulx [] ∧ decode [0x27] = .ok .pshx [] ∧ decode [0x28] = .ok .pula [] ∧
    decode [0x29] = .ok .pulb [] ∧ decode [0x2A] = .ok .psha [] ∧ decode [0x2B] = .ok .pshb [] ∧
    decode [0x2C] = .ok .rts [] ∧ decode [0x2D] = .ok .rti [] ∧ decode [0x2E] = .ok .wait [] ∧
    decode [0x2F] = .ok .swi [] := by
  and_intros <;> rfl

theorem test_decode_column_3 :
    decode [0x30] = .ok .nega [] ∧ decode [0x31] = .ok .clra [] ∧ decode [0x32] = .ok .inca [] ∧
    decode [0x33] = .ok .deca [] ∧ decode [0x34] = .ok .lsra [] ∧ decode [0x35] = .ok .rora [] ∧
    decode [0x36] = .ok .asra [] ∧ decode [0x37] = .ok .lsla [] ∧ decode [0x38] = .ok .rola [] ∧
    decode [0x39] = .ok .tsta [] ∧ decode [0x3A] = .ok .tdx [] ∧ decode [0x3C] = .ok .tba [] ∧
    decode [0x3E] = .ok .sba [] ∧ decode [0x3F] = .ok .aba [] := by
  and_intros <;> rfl

theorem test_decode_column_4 :
    decode [0x40] = .ok .negb [] ∧ decode [0x41] = .ok .clrb [] ∧ decode [0x42] = .ok .incb [] ∧
    decode [0x43] = .ok .decb [] ∧ decode [0x44] = .ok .lsrb [] ∧ decode [0x45] = .ok .rorb [] ∧
    decode [0x46] = .ok .asrb [] ∧ decode [0x47] = .ok .lslb [] ∧ decode [0x48] = .ok .rolb [] ∧
    decode [0x49] = .ok .tstb [] ∧ decode [0x4C] = .ok .tab [] ∧ decode [0x4E] = .ok .cba [] := by
  and_intros <;> rfl

theorem test_decode_column_5 :
    decode [0x50, 0x12] = .ok (.negIx 0x12) [] ∧ decode [0x51, 0x12] = .ok (.clrIx 0x12) [] ∧
    decode [0x52, 0x12] = .ok (.incIx 0x12) [] ∧ decode [0x53, 0x12] = .ok (.decIx 0x12) [] ∧
    decode [0x54, 0x12] = .ok (.lsrIx 0x12) [] ∧ decode [0x55, 0x12] = .ok (.rorIx 0x12) [] ∧
    decode [0x56, 0x12] = .ok (.asrIx 0x12) [] ∧ decode [0x57, 0x12] = .ok (.lslIx 0x12) [] ∧
    decode [0x58, 0x12] = .ok (.rolIx 0x12) [] ∧ decode [0x59, 0x12] = .ok (.tstIx 0x12) [] ∧
    decode [0x5A, 0x12, 0x34, 0x56] = .ok (.brsetIx 0x12 0x34 0x56) [] ∧
    decode [0x5B, 0x12, 0x34, 0x56] = .ok (.brclrIx 0x12 0x34 0x56) [] ∧
    decode [0x5C, 0x12, 0x34] = .ok (.bclrIx 0x12 0x34) [] ∧ decode [0x5D, 0x12, 0x34] = .ok (.bsetIx 0x12 0x34) [] ∧
    decode [0x5E, 0x12, 0x34] = .ok (.movIx 0x12 0x34) [] ∧ decode [0x5F, 0x12] = .ok (.jmpIx 0x12) [] := by
  and_intros <;> rfl

theorem test_decode_column_6 :
    decode [0x60, 0x12, 0x34] = .ok (.negExt 0x1234) [] ∧ decode [0x61, 0x12, 0x34] = .ok (.clrExt 0x1234) [] ∧
    decode [0x62, 0x12, 0x34] = .ok (.incExt 0x1234) [] ∧ decode [0x63, 0x12, 0x34] = .ok (.decExt 0x1234) [] ∧
    decode [0x64, 0x12, 0x34] = .ok (.lsrExt 0x1234) [] ∧ decode [0x65, 0x12, 0x34] = .ok (.rorExt 0x1234) [] ∧
    decode [0x66, 0x12, 0x34] = .ok (.asrExt 0x1234) [] ∧ decode [0x67, 0x12, 0x34] = .ok (.lslExt 0x1234) [] ∧
    decode [0x68, 0x12, 0x34] = .ok (.rolExt 0x1234) [] ∧ decode [0x69, 0x12, 0x34] = .ok (.tstExt 0x1234) [] ∧
    decode [0x6A, 0x12, 0x34, 0x56, 0x78] = .ok (.brsetExt 0x1234 0x56 0x78) [] ∧
    decode [0x6B, 0x12, 0x34, 0x56, 0x78] = .ok (.brclrExt 0x1234 0x56 0x78) [] ∧
    decode [0x6C, 0x12, 0x34, 0x56] = .ok (.bclrExt 0x1234 0x56) [] ∧
    decode [0x6D, 0x12, 0x34, 0x56] = .ok (.bsetExt 0x1234 0x56) [] ∧
    decode [0x6E, 0x12, 0x34, 0x56] = .ok (.movExt 0x1234 0x56) [] ∧ decode [0x6F, 0x12, 0x34] = .ok (.jmpExt 0x1234) [] := by
  and_intros <;> rfl

theorem test_decode_column_7 :
    decode [0x70] = .ok (.subaIxp none) [] ∧ decode [0x71] = .ok (.sbcaIxp none) [] ∧
    decode [0x72] = .ok (.addaIxp none) [] ∧ decode [0x73] = .ok (.andaIxp none) [] ∧
    decode [0x74] = .ok (.ldaaIxp none) [] ∧ decode [0x75] = .ok (.oraaIxp none) [] ∧
    decode [0x76] = .ok (.eoraIxp none) [] ∧ decode [0x77] = .ok (.adcaIxp none) [] ∧
    decode [0x78] = .ok (.cmpaIxp none) [] ∧ decode [0x79] = .ok (.bitaIxp none) [] ∧
    decode [0x7A] = .ok (.staaIxp none) [] ∧ decode [0x7D] = .ok (.subdIxp none) [] ∧
    decode [0x7E] = .ok (.cpdIxp none) [] ∧ decode [0x7F] = .ok (.adddIxp none) [] := by
  and_intros <;> rfl

theorem test_decode_column_8 :
    decode [0x80, 0x12] = .ok (.subaImm 0x12) [] ∧ decode [0x81, 0x12] = .ok (.sbcaImm 0x12) [] ∧
    decode [0x82, 0x12] = .ok (.addaImm 0x12) [] ∧ decode [0x83, 0x12] = .ok (.andaImm 0x12) [] ∧
    decode [0x84, 0x12] = .ok (.ldaaImm 0x12) [] ∧ decode [0x85, 0x12] = .ok (.oraaImm 0x12) [] ∧
    decode [0x86, 0x12] = .ok (.eoraImm 0x12) [] ∧ decode [0x87, 0x12] = .ok (.adcaImm 0x12) [] ∧
    decode [0x88, 0x12] = .ok (.cmpaImm 0x12) [] ∧ decode [0x89, 0x12] = .ok (.bitaImm 0x12) [] ∧
    decode [0x8B, 0x12] = .ok (.ais 0x12) [] ∧ decode [0x8D, 0x12, 0x34] = .ok (.ldsImm 0x1234) [] ∧
    decode [0x8E, 0x12, 0x34] = .ok (.subdImm 0x1234) [] ∧ decode [0x8F, 0x12, 0x34] = .ok (.adddImm 0x1234) [] := by
  and_intros <;> rfl

theorem test_decode_column_9 :
    decode [0x90, 0x12] = .ok (.subaDir 0x12) [] ∧ decode [0x91, 0x12] = .ok (.sbcaDir 0x12) [] ∧
    decode [0x92, 0x12] = .ok (.addaDir 0x12) [] ∧ decode [0x93, 0x12] = .ok (.andaDir 0x12) [] ∧
    decode [0x94, 0x12] = .ok (.ldaaDir 0x12) [] ∧ decode [0x95, 0x12] = .ok (.oraaDir 0x12) [] ∧
    decode [0x96, 0x12] = .ok (.eoraDir 0x12) [] ∧ decode [0x97, 0x12] = .ok (.adcaDir 0x12) [] ∧
    decode [0x98, 0x12] = .ok (.cmpaDir 0x12) [] ∧ decode [0x99, 0x12] = .ok (.bitaDir 0x12) [] ∧
    decode [0x9A, 0x12] = .ok (.staaDir 0x12) [] ∧ decode [0x9B, 0x12] = .ok (.stsDir 0x12) [] ∧
    decode [0x9C, 0x12] = .ok (.stdDir 0x12) [] ∧ decode [0x9D, 0x12] = .ok (.ldsDir 0x12) [] ∧
    decode [0x9E, 0x12] = .ok (.subdDir 0x12) [] ∧ decode [0x9F, 0x12] = .ok (.adddDir 0x12) [] := by
  and_intros <;> rfl

theorem test_decode_column_A :
    decode [0xA0, 0x12] = .ok (.subaIx 0x12) [] ∧ decode [0xA1, 0x12] = .ok (.sbcaIx 0x12) [] ∧
    decode [0xA2, 0x12] = .ok (.addaIx 0x12) [] ∧ decode [0xA3, 0x12] = .ok (.andaIx 0x12) [] ∧
    decode [0xA4, 0x12] = .ok (.ldaaIx 0x12) [] ∧ decode [0xA5, 0x12] = .ok (.oraaIx 0x12) [] ∧
    decode [0xA6, 0x12] = .ok (.eoraIx 0x12) [] ∧ decode [0xA7, 0x12] = .ok (.adcaIx 0x12) [] ∧
    decode [0xA8, 0x12] = .ok (.cmpaIx 0x12) [] ∧ decode [0xA9, 0x12] = .ok (.bitaIx 0x12) [] ∧
    decode [0xAA, 0x12] = .ok (.staaIx 0x12) [] ∧ decode [0xAB, 0x12] = .ok (.stsIx 0x12) [] ∧
    decode [0xAC, 0x12] = .ok (.stdIx 0x12) [] ∧ decode [0xAD, 0x12] = .ok (.ldsIx 0x12) [] ∧
    decode [0xAE, 0x12] = .ok (.subdIx 0x12) [] ∧ decode [0xAF, 0x12] = .ok (.adddIx 0x12) [] := by
  and_intros <;> rfl

theorem test_decode_column_B :
    decode [0xB0, 0x12, 0x34] = .ok (.subaExt 0x1234) [] ∧ decode [0xB1, 0x12, 0x34] = .ok (.sbcaExt 0x1234) [] ∧
    decode [0xB2, 0x12, 0x34] = .ok (.addaExt 0x1234) [] ∧ decode [0xB3, 0x12, 0x34] = .ok (.andaExt 0x1234) [] ∧
    decode [0xB4, 0x12, 0x34] = .ok (.ldaaExt 0x1234) [] ∧ decode [0xB5, 0x12, 0x34] = .ok (.oraaExt 0x1234) [] ∧
    decode [0xB6, 0x12, 0x34] = .ok (.eoraExt 0x1234) [] ∧ decode [0xB7, 0x12, 0x34] = .ok (.adcaExt 0x1234) [] ∧
    decode [0xB8, 0x12, 0x34] = .ok (.cmpaExt 0x1234) [] ∧ decode [0xB9, 0x12, 0x34] = .ok (.bitaExt 0x1234) [] ∧
    decode [0xBA, 0x12, 0x34] = .ok (.staaExt 0x1234) [] ∧ decode [0xBB, 0x12, 0x34] = .ok (.stsExt 0x1234) [] ∧
    decode [0xBC, 0x12, 0x34] = .ok (.stdExt 0x1234) [] ∧ decode [0xBD, 0x12, 0x34] = .ok (.ldsExt 0x1234) [] ∧
    decode [0xBE, 0x12, 0x34] = .ok (.subdExt 0x1234) [] ∧ decode [0xBF, 0x12, 0x34] = .ok (.adddExt 0x1234) [] := by
  and_intros <;> rfl

theorem test_decode_column_C :
    decode [0xC0, 0x12] = .ok (.subbImm 0x12) [] ∧ decode [0xC1, 0x12] = .ok (.sbcbImm 0x12) [] ∧
    decode [0xC2, 0x12] = .ok (.addbImm 0x12) [] ∧ decode [0xC3, 0x12] = .ok (.andbImm 0x12) [] ∧
    decode [0xC4, 0x12] = .ok (.ldabImm 0x12) [] ∧ decode [0xC5, 0x12] = .ok (.orabImm 0x12) [] ∧
    decode [0xC6, 0x12] = .ok (.eorbImm 0x12) [] ∧ decode [0xC7, 0x12] = .ok (.adcbImm 0x12) [] ∧
    decode [0xC8, 0x12] = .ok (.cmpbImm 0x12) [] ∧ decode [0xC9, 0x12] = .ok (.bsr 0x12) [] ∧
    decode [0xCB, 0x12] = .ok (.aix 0x12) [] ∧ decode [0xCC, 0x12, 0x34] = .ok (.cpxImm 0x1234) [] ∧
    decode [0xCD, 0x12, 0x34] = .ok (.ldxImm 0x1234) [] ∧ decode [0xCE, 0x12, 0x34] = .ok (.cpdImm 0x1234) [] ∧
    decode [0xCF, 0x12, 0x34] = .ok (.lddImm 0x1234) [] := by
  and_intros <;> rfl

theorem test_decode_column_D :
    decode [0xD0, 0x12] = .ok (.subbDir 0x12) [] ∧ decode [0xD1, 0x12] = .ok (.sbcbDir 0x12) [] ∧
    decode [0xD2, 0x12] = .ok (.addbDir 0x12) [] ∧ decode [0xD3, 0x12] = .ok (.andbDir 0x12) [] ∧
    decode [0xD4, 0x12] = .ok (.ldabDir 0x12) [] ∧ decode [0xD5, 0x12] = .ok (.orabDir 0x12) [] ∧
    decode [0xD6, 0x12] = .ok (.eorbDir 0x12) [] ∧ decode [0xD7, 0x12] = .ok (.adcbDir 0x12) [] ∧
    decode [0xD8, 0x12] = .ok (.cmpbDir 0x12) [] ∧ decode [0xD9, 0x12] = .ok (.jsrDir 0x12) [] ∧
    decode [0xDA, 0x12] = .ok (.stabDir 0x12) [] ∧ decode [0xDB, 0x12] = .ok (.stxDir 0x12) [] ∧
    decode [0xDC, 0x12] = .ok (.cpxDir 0x12) [] ∧ decode [0xDD, 0x12] = .ok (.ldxDir 0x12) [] ∧
    decode [0xDE, 0x12] = .ok (.cpdDir 0x12) [] ∧ decode [0xDF, 0x12] = .ok (.lddDir 0x12) [] := by
  and_intros <;> rfl

theorem test_decode_column_E :
    decode [0xE0, 0x12] = .ok (.subbIx 0x12) [] ∧ decode [0xE1, 0x12] = .ok (.sbcbIx 0x12) [] ∧
    decode [0xE2, 0x12] = .ok (.addbIx 0x12) [] ∧ decode [0xE3, 0x12] = .ok (.andbIx 0x12) [] ∧
    decode [0xE4, 0x12] = .ok (.ldabIx 0x12) [] ∧ decode [0xE5, 0x12] = .ok (.orabIx 0x12) [] ∧
    decode [0xE6, 0x12] = .ok (.eorbIx 0x12) [] ∧ decode [0xE7, 0x12] = .ok (.adcbIx 0x12) [] ∧
    decode [0xE8, 0x12] = .ok (.cmpbIx 0x12) [] ∧ decode [0xE9, 0x12] = .ok (.jsrIx 0x12) [] ∧
    decode [0xEA, 0x12] = .ok (.stabIx 0x12) [] ∧ decode [0xEB, 0x12] = .ok (.stxIx 0x12) [] ∧
    decode [0xEC, 0x12] = .ok (.cpxIx 0x12) [] ∧ decode [0xED, 0x12] = .ok (.ldxIx 0x12) [] ∧
    decode [0xEE, 0x12] = .ok (.cpdIx 0x12) [] ∧ decode [0xEF, 0x12] = .ok (.lddIx 0x12) [] := by
  and_intros <;> rfl

theorem test_decode_column_F :
    decode [0xF0, 0x12, 0x34] = .ok (.subbExt 0x1234) [] ∧ decode [0xF1, 0x12, 0x34] = .ok (.sbcbExt 0x1234) [] ∧
    decode [0xF2, 0x12, 0x34] = .ok (.addbExt 0x1234) [] ∧ decode [0xF3, 0x12, 0x34] = .ok (.andbExt 0x1234) [] ∧
    decode [0xF4, 0x12, 0x34] = .ok (.ldabExt 0x1234) [] ∧ decode [0xF5, 0x12, 0x34] = .ok (.orabExt 0x1234) [] ∧
    decode [0xF6, 0x12, 0x34] = .ok (.eorbExt 0x1234) [] ∧ decode [0xF7, 0x12, 0x34] = .ok (.adcbExt 0x1234) [] ∧
    decode [0xF8, 0x12, 0x34] = .ok (.cmpbExt 0x1234) [] ∧ decode [0xF9, 0x12, 0x34] = .ok (.jsrExt 0x1234) [] ∧
    decode [0xFA, 0x12, 0x34] = .ok (.stabExt 0x1234) [] ∧ decode [0xFB, 0x12, 0x34] = .ok (.stxExt 0x1234) [] ∧
    decode [0xFC, 0x12, 0x34] = .ok (.cpxExt 0x1234) [] ∧ decode [0xFD, 0x12, 0x34] = .ok (.ldxExt 0x1234) [] ∧
    decode [0xFE, 0x12, 0x34] = .ok (.cpdExt 0x1234) [] ∧ decode [0xFF, 0x12, 0x34] = .ok (.lddExt 0x1234) [] := by
  and_intros <;> rfl

theorem test_decode_refuses_empty_cells : ∀ op ∈ [0x3B, 0x3D, 0x4A, 0x4B, 0x4D, 0x4F, 0x7B, 0x7C, 0x8A, 0x8C, (0xCA : Byte)],
    operandBytes op = none := by decide

theorem test_decode_truncated : decode [0x6A, 0x12, 0x34, 0x56] = .truncated := rfl

/-! ## One step on the spec's vectors -/

/-- The state s with instruction bytes at 0x0100, PC there, and some bytes of RAM. -/
def placed (code : List Byte) (ram : List (Word × Byte)) (s : State) : State :=
  { s with
    pc := 0x0100
    mem := (ram.foldl (fun m c => m.set c.1.toNat c.2) s.mem).load 0x0100 code }

/-- One step from the placed instruction answers a next state of which p holds. -/
def after (code : List Byte) (ram : List (Word × Byte)) (s : State) (p : State → Prop) [DecidablePred p] : Bool :=
  match step (placed code ram s) with
  | .next t => decide (p t)
  | .fault _ => false
  | .refused _ => false

/-- An outcome is a next state. -/
def completes {α : Type} : Res α → Bool
  | .next _ => true
  | .fault _ => false
  | .refused _ => false

/-- T-40-3. -/
theorem test_idiv : after [0x08] []
    { State.reset with a := 0x17, b := 0x05 }
    (fun t => t.a = 0x04 ∧ t.b = 0x03 ∧ t.pc = 0x0101) := by decide

/-- T-40-6. -/
theorem test_mul : after [0x09] []
    { State.reset with a := 0xFF, b := 0xFF, ccr := { State.reset.ccr with c := false } }
    (fun t => t.a = 0xFE ∧ t.b = 0x01 ∧ t.pc = 0x0101) := by decide

/-- T-40-9. -/
theorem test_clv : after [0x0A] []
    { State.reset with ccr := { State.reset.ccr with h := false, i := false, n := false, z := false, v := true, c := false } }
    (fun t => t.pc = 0x0101 ∧ t.ccr.v = false) := by decide

/-- T-41-5. -/
theorem test_dbbnz : after [0x03, 0xFE] []
    { State.reset with b := 0x01 }
    (fun t => t.b = 0x00 ∧ t.pc = 0x0102 ∧ t.ccr.n = false ∧ t.ccr.z = true ∧ t.ccr.v = false) := by decide

/-- T-41-8. -/
theorem test_bra : after [0x05, 0x7F] []
    State.reset
    (fun t => t.pc = 0x0181) := by decide

/-- T-41-18. -/
theorem test_bhi : after [0x12, 0x04] []
    { State.reset with ccr := { State.reset.ccr with z := false, c := false } }
    (fun t => t.pc = 0x0106) := by decide

/-- T-41-34. -/
theorem test_bgt : after [0x1E, 0x04] []
    { State.reset with ccr := { State.reset.ccr with n := false, z := false, v := false } }
    (fun t => t.pc = 0x0106) := by decide

/-- T-42-1. -/
theorem test_tsx : after [0x20] []
    { State.reset with sp := 0x7FF0 }
    (fun t => t.ix = 0x7FF1 ∧ t.pc = 0x0101) := by decide

/-- T-42-3. -/
theorem test_txs : after [0x21] []
    { State.reset with ix := 0x7FF1 }
    (fun t => t.sp = 0x7FF0 ∧ t.pc = 0x0101) := by decide

/-- T-42-9. -/
theorem test_pulx : after [0x26] [(0x7FEF, 0x12), (0x7FF0, 0x34)]
    { State.reset with sp := 0x7FEE }
    (fun t => t.ix = 0x1234 ∧ t.sp = 0x7FF0 ∧ t.pc = 0x0101) := by decide

/-- T-42-10. -/
theorem test_pshx : after [0x27] []
    { State.reset with ix := 0x1234, sp := 0x7FF0 }
    (fun t => t.sp = 0x7FEE ∧ t.pc = 0x0101 ∧ t.ram 0x7FEF = 0x12 ∧ t.ram 0x7FF0 = 0x34) := by decide

/-- T-42-15. -/
theorem test_rts : after [0x2C] [(0x7FEF, 0x01), (0x7FF0, 0x23)]
    { State.reset with sp := 0x7FEE }
    (fun t => t.sp = 0x7FF0 ∧ t.pc = 0x0123) := by decide

/-- T-42-16. -/
theorem test_rti : after [0x2D] [(0x7FEB, 0x01), (0x7FEC, 0x55), (0x7FED, 0x12), (0x7FEE, 0x34), (0x7FEF, 0x01), (0x7FF0, 0x08)]
    { State.reset with b := 0x99, sp := 0x7FEA, ccr := { State.reset.ccr with i := true } }
    (fun t => t.a = 0x55 ∧ t.ix = 0x1234 ∧ t.sp = 0x7FF0 ∧ t.pc = 0x0108 ∧ t.ccr.h = false ∧ t.ccr.i = false ∧ t.ccr.n = false ∧ t.ccr.z = false ∧ t.ccr.v = false ∧ t.ccr.c = true) := by decide

/-- T-42-18. -/
theorem test_swi : after [0x2F] [(0x7FF6, 0x03), (0x7FF7, 0x00)]
    { State.reset with a := 0x55, b := 0x99, ix := 0x1234, sp := 0x7FF0, ccr := { State.reset.ccr with h := false, i := false, n := false, z := false, v := false, c := true } }
    (fun t => t.sp = 0x7FEA ∧ t.ccr.i = true) := by decide

/-- T-43-1. -/
theorem test_nega : after [0x30] []
    { State.reset with a := 0x01, ccr := { State.reset.ccr with c := false } }
    (fun t => t.a = 0xFF ∧ t.pc = 0x0101 ∧ t.ccr.n = true ∧ t.ccr.z = false ∧ t.ccr.v = false ∧ t.ccr.c = true) := by decide

/-- T-43-9. -/
theorem test_clrIx : after [0x51, 0x03] []
    { State.reset with ix := 0x0200 }
    (fun t => t.pc = 0x0102 ∧ t.ccr.n = false ∧ t.ccr.z = true ∧ t.ccr.v = false ∧ t.ram 0x0203 = 0x00) := by decide

/-- T-43-14. -/
theorem test_incIx : after [0x52, 0x00] [(0x0080, 0x7F)]
    { State.reset with ix := 0x0080 }
    (fun t => t.pc = 0x0102 ∧ t.ccr.n = true ∧ t.ccr.z = false ∧ t.ccr.v = true ∧ t.ram 0x0080 = 0x80) := by decide

/-- T-43-18. -/
theorem test_decExt : after [0x63, 0x00, 0x40] [(0x0040, 0x00)]
    State.reset
    (fun t => t.pc = 0x0103 ∧ t.ccr.n = true ∧ t.ccr.z = false ∧ t.ccr.v = false ∧ t.ram 0x0040 = 0xFF) := by decide

/-- T-43-22. -/
theorem test_lsrIx : after [0x54, 0x00] [(0x0040, 0xFF)]
    { State.reset with ix := 0x0040, ccr := { State.reset.ccr with c := false } }
    (fun t => t.pc = 0x0102 ∧ t.ccr.n = false ∧ t.ccr.z = false ∧ t.ccr.v = true ∧ t.ccr.c = true ∧ t.ram 0x0040 = 0x7F) := by decide

/-- T-43-26. -/
theorem test_rorExt : after [0x65, 0x00, 0x41] [(0x0041, 0x03)]
    { State.reset with ccr := { State.reset.ccr with c := false } }
    (fun t => t.pc = 0x0103 ∧ t.ccr.n = false ∧ t.ccr.z = false ∧ t.ccr.v = true ∧ t.ccr.c = true ∧ t.ram 0x0041 = 0x01) := by decide

/-- T-43-30. -/
theorem test_asrIx : after [0x56, 0x01] [(0x0041, 0x81)]
    { State.reset with ix := 0x0040, ccr := { State.reset.ccr with c := false } }
    (fun t => t.pc = 0x0102 ∧ t.ccr.n = true ∧ t.ccr.z = false ∧ t.ccr.v = false ∧ t.ccr.c = true ∧ t.ram 0x0041 = 0xC0) := by decide

/-- T-43-34. -/
theorem test_lslExt : after [0x67, 0x00, 0x40] [(0x0040, 0x55)]
    { State.reset with ccr := { State.reset.ccr with c := true } }
    (fun t => t.pc = 0x0103 ∧ t.ccr.n = true ∧ t.ccr.z = false ∧ t.ccr.v = true ∧ t.ccr.c = false ∧ t.ram 0x0040 = 0xAA) := by decide

/-- T-43-38. -/
theorem test_rolIx : after [0x58, 0x00] [(0x0040, 0x00)]
    { State.reset with ix := 0x0040, ccr := { State.reset.ccr with c := true } }
    (fun t => t.pc = 0x0102 ∧ t.ccr.n = false ∧ t.ccr.z = false ∧ t.ccr.v = false ∧ t.ccr.c = false ∧ t.ram 0x0040 = 0x01) := by decide

/-- T-43-41. -/
theorem test_tstb : after [0x49] []
    { State.reset with b := 0x7F }
    (fun t => t.pc = 0x0101 ∧ t.ccr.n = false ∧ t.ccr.z = false ∧ t.ccr.v = false) := by decide

/-- T-44-1. -/
theorem test_tdx : after [0x3A] []
    { State.reset with a := 0x80, b := 0x01, ix := 0x0000 }
    (fun t => t.ix = 0x8001 ∧ t.pc = 0x0101 ∧ t.ccr.n = true ∧ t.ccr.z = false ∧ t.ccr.v = false) := by decide

/-- T-44-5. -/
theorem test_sba : after [0x3E] []
    { State.reset with a := 0x10, b := 0x20 }
    (fun t => t.a = 0xF0 ∧ t.pc = 0x0101 ∧ t.ccr.n = true ∧ t.ccr.z = false ∧ t.ccr.v = false ∧ t.ccr.c = true) := by decide

/-- T-44-8. -/
theorem test_aba : after [0x3F] []
    { State.reset with a := 0x7F, b := 0x01, ccr := { State.reset.ccr with h := false } }
    (fun t => t.a = 0x80 ∧ t.pc = 0x0101 ∧ t.ccr.n = true ∧ t.ccr.z = false ∧ t.ccr.v = true ∧ t.ccr.c = false) := by decide

/-- T-44-10. -/
theorem test_brsetIx : after [0x5A, 0x02, 0x01, 0xFC] [(0x0042, 0x01)]
    { State.reset with ix := 0x0040 }
    (fun t => t.pc = 0x0100 ∧ t.ccr.z = false ∧ t.ccr.c = true) := by decide

/-- T-44-13. -/
theorem test_brclrIx : after [0x5B, 0x00, 0x80, 0x05] [(0x0040, 0x7F)]
    { State.reset with ix := 0x0040 }
    (fun t => t.pc = 0x0109 ∧ t.ccr.z = false ∧ t.ccr.c = false) := by decide

/-- T-44-16. -/
theorem test_bclrIx : after [0x5C, 0x00, 0x0F] [(0x0040, 0xFF)]
    { State.reset with ix := 0x0040, ccr := { State.reset.ccr with c := true } }
    (fun t => t.pc = 0x0103 ∧ t.ccr.n = true ∧ t.ccr.z = false ∧ t.ccr.v = false ∧ t.ram 0x0040 = 0xF0) := by decide

/-- T-44-18. -/
theorem test_bsetIx : after [0x5D, 0x01, 0x80] [(0x0041, 0x01)]
    { State.reset with ix := 0x0040 }
    (fun t => t.pc = 0x0103 ∧ t.ccr.n = true ∧ t.ccr.z = false ∧ t.ccr.v = false ∧ t.ram 0x0041 = 0x81) := by decide

/-- T-44-20. -/
theorem test_movIx : after [0x5E, 0x04, 0xAA] []
    { State.reset with ix := 0x0040 }
    (fun t => t.pc = 0x0103 ∧ t.ccr.n = true ∧ t.ccr.z = false ∧ t.ccr.v = false ∧ t.ram 0x0044 = 0xAA) := by decide

/-- T-44-22. -/
theorem test_jmpIx : after [0x5F, 0x02] []
    { State.reset with ix := 0x0200 }
    (fun t => t.pc = 0x0202) := by decide

/-- T-45-5. -/
theorem test_sbcaImm : after [0x81, 0x00] []
    { State.reset with a := 0x00, ccr := { State.reset.ccr with c := true } }
    (fun t => t.a = 0xFF ∧ t.pc = 0x0102 ∧ t.ccr.n = true ∧ t.ccr.z = false ∧ t.ccr.v = false) := by decide

/-- T-45-11. -/
theorem test_addaIx : after [0xA2, 0x0A] [(0x004A, 0x02)]
    { State.reset with a := 0x01, ix := 0x0040 }
    (fun t => t.a = 0x03 ∧ t.pc = 0x0102 ∧ t.ccr.n = false ∧ t.ccr.z = false ∧ t.ccr.v = false ∧ t.ccr.c = false) := by decide

/-- T-45-15. -/
theorem test_ldaaImm : after [0x84, 0x00] []
    { State.reset with a := 0x55 }
    (fun t => t.a = 0x00 ∧ t.pc = 0x0102 ∧ t.ccr.n = false ∧ t.ccr.z = true ∧ t.ccr.v = false) := by decide

/-- T-45-23. -/
theorem test_adcaImm : after [0x87, 0x05] []
    { State.reset with a := 0x01, ccr := { State.reset.ccr with c := true } }
    (fun t => t.a = 0x07 ∧ t.pc = 0x0102 ∧ t.ccr.n = false ∧ t.ccr.z = false ∧ t.ccr.v = false ∧ t.ccr.c = false) := by decide

/-- T-45-25. -/
theorem test_cmpaImm : after [0x88, 0x10] []
    { State.reset with a := 0x10 }
    (fun t => t.pc = 0x0102 ∧ t.ccr.n = false ∧ t.ccr.z = true ∧ t.ccr.v = false ∧ t.ccr.c = false) := by decide

/-- T-45-29. -/
theorem test_staaDir : after [0x9A, 0x10] []
    { State.reset with a := 0x00 }
    (fun t => t.pc = 0x0102 ∧ t.ccr.n = false ∧ t.ccr.z = true ∧ t.ccr.v = false ∧ t.ram 0x0010 = 0x00) := by decide

/-- T-45-40. -/
theorem test_cmpbImm : after [0xC8, 0xFF] []
    { State.reset with b := 0x00 }
    (fun t => t.pc = 0x0102 ∧ t.ccr.n = false ∧ t.ccr.z = false ∧ t.ccr.v = false ∧ t.ccr.c = true) := by decide

/-- T-46-1. -/
theorem test_bsr : after [0xC9, 0x10] []
    { State.reset with sp := 0x7FF0 }
    (fun t => t.sp = 0x7FEE ∧ t.pc = 0x0112 ∧ t.ram 0x7FEF = 0x01 ∧ t.ram 0x7FF0 = 0x02) := by decide

/-- T-46-3. -/
theorem test_jsrDir : after [0xD9, 0x80] []
    { State.reset with sp := 0x7FF0 }
    (fun t => t.sp = 0x7FEE ∧ t.pc = 0x0080 ∧ t.ram 0x7FEF = 0x01 ∧ t.ram 0x7FF0 = 0x02) := by decide

/-- T-46-8. -/
theorem test_aix : after [0xCB, 0xFF] []
    { State.reset with ix := 0x0000, ccr := { State.reset.ccr with z := false } }
    (fun t => t.ix = 0xFFFF ∧ t.pc = 0x0102) := by decide

/-- T-46-10. -/
theorem test_stsDir : after [0x9B, 0x10] []
    { State.reset with sp := 0x7FF0 }
    (fun t => t.pc = 0x0102 ∧ t.ccr.n = false ∧ t.ccr.z = false ∧ t.ccr.v = false ∧ t.ram 0x0010 = 0x7F ∧ t.ram 0x0011 = 0xF0) := by decide

/-- T-46-13. -/
theorem test_stdDir : after [0x9C, 0xFF] []
    { State.reset with a := 0x12, b := 0x34 }
    (fun t => t.pc = 0x0102 ∧ t.ccr.n = false ∧ t.ccr.z = false ∧ t.ccr.v = false ∧ t.ram 0x00FF = 0x12 ∧ t.ram 0x0100 = 0x34) := by decide

/-- T-46-15. -/
theorem test_cpxImm : after [0xCC, 0x01, 0x00] []
    { State.reset with ix := 0x0100 }
    (fun t => t.pc = 0x0103 ∧ t.ccr.n = false ∧ t.ccr.z = true ∧ t.ccr.v = false ∧ t.ccr.c = false) := by decide

/-- T-46-18. -/
theorem test_ldsImm : after [0x8D, 0x7F, 0xF5] []
    State.reset
    (fun t => t.sp = 0x7FF5 ∧ t.pc = 0x0103 ∧ t.ccr.n = false ∧ t.ccr.z = false ∧ t.ccr.v = false) := by decide

/-- T-46-21. -/
theorem test_subdImm : after [0x8E, 0x00, 0x01] []
    { State.reset with a := 0x01, b := 0x00 }
    (fun t => t.a = 0x00 ∧ t.b = 0xFF ∧ t.pc = 0x0103 ∧ t.ccr.n = false ∧ t.ccr.z = false ∧ t.ccr.v = false ∧ t.ccr.c = false) := by decide

/-- T-46-27. -/
theorem test_adddImm : after [0x8F, 0x00, 0x01] []
    { State.reset with a := 0x00, b := 0xFF }
    (fun t => t.a = 0x01 ∧ t.b = 0x00 ∧ t.pc = 0x0103 ∧ t.ccr.n = false ∧ t.ccr.z = false ∧ t.ccr.v = false ∧ t.ccr.c = false) := by decide

/-! ## Faults, devices, interrupts -/

/-- T-60: an empty opcode and a fetch from the MM registers fault. -/
theorem test_faults : step (placed [0x4A] [] State.reset) = .fault (.illegalOpcode 0x4A) ∧
    step { State.reset with pc := 0x8000 } = .fault (.invalidAccess 0x8000) ∧
    step (placed [0xB6, 0x80, 0x0E] [] State.reset) = .fault (.invalidAccess 0x800E) := ⟨rfl, rfl, rfl⟩

/-- R291: `BA 80 06` with A = 0x55 writes 0x55 to OUT1. -/
theorem test_store_to_output_port : after [0xBA, 0x80, 0x06] [] { State.reset with a := 0x55 }
    (fun t => t.dev.out1 = 0x55 ∧ t.dev.outputs = [(.out1, 0x55)] ∧ t.ccr.n = false) := by decide

/-- R84: a store to the opcode byte of the next instruction makes its fetch fault. -/
theorem test_lookahead : (match step (placed [0xBA, 0x01, 0x03] [] State.reset) with
    | .next t => step t
    | x => x) = .fault (.opcodeOverwritten 0x0103) := rfl

/-- R402, R413: after INCA the next opcode is loaded ahead; after BRA its target's. -/
theorem test_opcode_loaded_ahead :
    after [0x32] [(0x0101, 0x4C)] State.reset (fun t => t.opcode = 0x4C ∧ t.ccrOpcode = 0x32) ∧
    after [0x05, 0x10] [(0x0112, 0x2C)] State.reset (fun t => t.opcode = 0x2C ∧ t.ccrOpcode = 0x05) := by decide

/-- R352, R353: a pending enabled source with I = 0 is entered: SP six lower, I set, SWI in the second opcode register. -/
theorem test_interrupt_entry : (match step { State.reset with
      sp := 0x7FF0, dev := { Devices.reset with irqctl := 0x40, pendExt1 := true } } with
    | .next t => decide (t.sp = 0x7FEA ∧ t.ccr.i = true ∧ t.ccrOpcode = 0x2F ∧ t.dev.pendExt1 = true)
    | _ => false) = true := by decide

/-! ## Witnesses: for each statement with hypotheses, concrete states and operands that meet them -/

/-- Two outcomes are the same. -/
def same (x y : Res State) : Bool :=
  match x, y with
  | .next s, .next t => decide (s = t)
  | .fault r, .fault q => decide (r = q)
  | .refused r, .refused q => decide (r = q)
  | _, _ => false

theorem eq_of_same {x y : Res State} (h : same x y = true) : x = y := by
  cases x <;> cases y <;> simp_all [same]

/-- An outcome is a next state of which p holds. -/
def nextIs (x : Res State) (p : State → Prop) [DecidablePred p] : Bool :=
  match x with
  | .next t => decide (p t)
  | .fault _ => false
  | .refused _ => false

/-- An outcome that completes is a next state. -/
theorem next_of_completes {α : Type} {x : Res α} (h : completes x = true) : ∃ t, x = .next t := by
  cases x <;> simp_all [completes]

/-- Every address takes a write. -/
def allWritable (l : List Word) : Bool := l.all fun a => decide (Writable a)

theorem allWritable_iff {l : List Word} : allWritable l = true ↔ ∀ a ∈ l, Writable a := by simp [allWritable]

/-- Reset with IX given. -/
def atIx (v : Word) : State := { State.reset with ix := v }

/-- Reset with SP given. -/
def atSp (v : Word) : State := { State.reset with sp := v }

/-- One request of external interrupt 1, enabled and unmasked. -/
def asking : State := { State.reset with dev := { Devices.reset with irqctl := 0x40, pendExt1 := true } }

/-- A tick with a request of both external inputs and of both timers. -/
def busyTick : EnvTick :=
  { reqExt1 := true, reqExt2 := true, reqT1 := true, reqT2 := true, in1 := 0x11, in2 := 0x22
    t1cntH := 1, t1cntL := 2, t2cntH := 3, t2cntL := 4 }

theorem witness_DecodeEncodeAgree :
    (Instr.brsetExt 0x800D 0xFF 0x80).wf = true ∧ (Instr.ldaaIxp none).wf = true ∧ Instr.nop.wf = true := by decide

theorem witness_DecodedBytesAreTheEncoding :
    decode [0x6A, 0x80, 0x0D, 0xFF, 0x80, 0x01] = .ok (.brsetExt 0x800D 0xFF 0x80) [0x01] := rfl

theorem witness_OpcodeByteFixesLengthOrIsEmpty :
    decode [0x3B] = .illegal 0x3B ∧ decode [0xCA, 0x01] = .illegal 0xCA ∧ decode [0x3A] = .ok .tdx [] ∧
    (Instr.ldaaImm 0x00).wf = true ∧ (Instr.ldaaImm 0xFF).wf = true ∧
    (encode (.ldaaImm 0x00)).head? = (encode (.ldaaImm 0xFF)).head? ∧
    (encode (.brsetExt 0 0 0)).head? = (encode (.brsetExt 0xFFFF 1 2)).head? := by
  and_intros <;> rfl

/-- Three bytes at 0x0100, and one byte in the last byte of RAM. -/
theorem witness_StepRunsTheDecodedInstruction :
    (let s := placed [0xB4, 0x80, 0x0D] [] State.reset
     s.run = .running ∧ s.boundary.interruption = false ∧ s.pc ∉ s.stores ∧
      (∀ k < 3, InRam (s.pc + BitVec.ofNat 16 k)) ∧ decode (codeAt s 3) = .ok (.ldaaExt 0x800D) []) ∧
    (let s := { State.reset with pc := 0x7FFF, mem := [(0x7FFF, 0x32)], stores := [0x7FFE], env := [busyTick] }
     s.run = .running ∧ s.boundary.interruption = false ∧ s.pc ∉ s.stores ∧
      (∀ k < 1, InRam (s.pc + BitVec.ofNat 16 k)) ∧ decode (codeAt s 1) = .ok .inca []) := by
  decide

/-- An overwritten opcode; a fetch at 0x8000; an empty opcode; a first and a fourth operand byte at 0x8000. -/
theorem witness_FetchStopsAsTheSpecSays :
    (let s := { State.reset with stores := [0x0100] }
     s.run = .running ∧ s.boundary.interruption = false ∧ s.pc ∈ s.stores) ∧
    (let s := { State.reset with pc := 0x8000 }
     s.run = .running ∧ s.boundary.interruption = false ∧ s.pc ∉ s.stores ∧ ¬ InRam s.pc) ∧
    (let s := placed [0x3B] [] State.reset
     s.run = .running ∧ s.boundary.interruption = false ∧ s.pc ∉ s.stores ∧ InRam s.pc ∧ operandBytes (s.ram s.pc) = none) ∧
    (let s := { State.reset with pc := 0x7FFF, mem := [(0x7FFF, 0xB6)] }
     s.run = .running ∧ s.boundary.interruption = false ∧ s.pc ∉ s.stores ∧ operandBytes (s.ram s.pc) = some 2 ∧
      (∀ j ≤ 0, InRam (s.pc + BitVec.ofNat 16 j)) ∧ ¬ InRam (s.pc + BitVec.ofNat 16 (0 + 1))) ∧
    (let s := { State.reset with pc := 0x7FFC, mem := [(0x7FFC, 0x6A)] }
     s.run = .running ∧ s.boundary.interruption = false ∧ s.pc ∉ s.stores ∧ operandBytes (s.ram s.pc) = some 4 ∧
      (∀ j ≤ 3, InRam (s.pc + BitVec.ofNat 16 j)) ∧ ¬ InRam (s.pc + BitVec.ofNat 16 (3 + 1))) := by
  decide

/-- A word store across the end of RAM, and a push; a step that loads ahead, one that stores to what it loads, one that waits. -/
theorem witness_StoredRamAddressesAreNoted :
    State.reset.stores = [] ∧ completes (exec (.stdExt 0x7FFF) State.reset) = true ∧
    completes (exec .psha State.reset) = true ∧ completes (exec .nop State.reset) = true ∧
    nextIs (step State.reset) (fun t => InRam t.pc ∧ t.pc ∉ t.stores) ∧
    nextIs (step (placed [0xBA, 0x01, 0x03] [] State.reset)) (fun t => t.pc ∈ t.stores) ∧
    nextIs (step { State.reset with run := .waiting }) (fun t => t.run = .waiting) := by decide

/-- A state in the middle of a run: RAM listed, a store noted, CLI just executed, an output written. -/
def midRun : State :=
  { State.reset with
    mem := [(0x0040, 1), (0x0100, 0x32)], stores := [0x0040], irqLag := true, opcode := 0x32, ccrOpcode := 0x0E
    dev := { Devices.reset with out1 := 0x55, outputs := [(.out1, 0x55), (.out2, 0), (.out1, 0x54)] } }

theorem witness_EveryStepKeepsTheInvariant : Inv midRun ∧ completes (step midRun) :=
  ⟨⟨by decide, by simp [midRun], fun _ => rfl, fun h => absurd rfl h, by decide,
    fun v h => by simpa [lastOutput, midRun] using h, fun v h => by simpa [lastOutput, midRun, Devices.reset] using h⟩, by decide⟩

theorem witness_ResetMeetsTheInvariant_bounds :
    (Memory.wf [(0x0000, 1), (0x7FFF, 0xFF)] = true) ∧ Memory.wf [(0x8000, 1)] = false ∧ Memory.wf [(0x40, 0)] = false ∧
    Memory.wf [(2, 1), (1, 1)] = false := by decide

/-- Every way a step stops is met. -/
theorem witness_StopsAreOnlyTheNamedOnes :
    same (step (placed [0xB6, 0x80, 0x0E] [] State.reset)) (.fault (.invalidAccess 0x800E)) ∧
    same (step { State.reset with pc := 0x7FFF, mem := [(0x7FFF, 0x84)] }) (.fault (.invalidAccess 0x8000)) ∧
    same (step (placed [0xCA] [] State.reset)) (.fault (.illegalOpcode 0xCA)) ∧
    same (step { State.reset with stores := [0x0100] }) (.fault (.opcodeOverwritten 0x0100)) ∧
    same (step { State.reset with run := .stopped }) (.fault .runEnded) ∧
    same (step (placed [0xBA, 0x80, 0x08] [] State.reset)) (.refused (.inputRegisterWrite 0x8008)) ∧
    same (step (placed [0xBA, 0x80, 0x0D] [] State.reset)) (.refused (.inputRegisterWrite 0x800D)) ∧
    same (step (placed [0x69, 0x80, 0x00] [] State.reset)) (.refused (.testOfDevice 0x8000)) ∧
    same (step (placed [0x69, 0x80, 0x0D] [] State.reset)) (.refused (.testOfDevice 0x800D)) := by
  decide

theorem witness_RecognitionUnitMasksAndSelects :
    asking.interruption = true ∧ asks asking.dev .ext1 ∧
    (let s := { asking with ccr := { asking.ccr with i := true } }
     s.interruption = false ∧ s.run = .running ∧ s.ccr.i = true) := by
  simp only [asks]; decide

/-- From a running and from a waiting machine, at the two ends of the stack's range, by a request already pending and by one
that comes with the boundary's tick; where recognition may come late; and two stacks on which the entry stops. -/
theorem witness_HardwareInterruptIsEntered :
    (let s := { asking with sp := 5 }
     s.run ≠ .stopped ∧ s.boundary.interruption = true ∧ allWritable (frameAddrs s)) ∧
    (let s := { asking with sp := 0x8007, irqLag := true }
     s.run ≠ .stopped ∧ s.boundary.interruption = true ∧ lagDraws s = 1 ∧ allWritable (frameAddrs s)) ∧
    (let s := { State.reset with
        run := .waiting, sp := 0x8007, env := [busyTick], dev := { Devices.reset with irqctl := 0xF0, tmrctl := 0x0C } }
     s.run ≠ .stopped ∧ s.boundary.interruption = true ∧ allWritable (frameAddrs s) ∧
      asks s.boundary.dev .ext1 ∧ asks s.boundary.dev .t2) ∧
    (let s := { asking with sp := 0x8008 }
     s.run ≠ .stopped ∧ s.boundary.interruption = true ∧
      (frameAddrs s).find? (fun x => !decide (Writable x)) = some 0x8008 ∧ same (step s) (writeStop 0x8008)) ∧
    (let s := { asking with sp := 4, run := .waiting }
     s.run ≠ .stopped ∧ s.boundary.interruption = true ∧
      (frameAddrs s).find? (fun x => !decide (Writable x)) = some 0xFFFF ∧ same (step s) (writeStop 0xFFFF)) := by
  simp only [asks]; decide

theorem witness_RecognitionMayComeOneInstructionLate :
    (let s := { asking with irqLag := true }
     s.run = .running ∧ s.boundary.interruption = true ∧ s.irqLag = true) ∧
    State.reset.irqLag = false ∧
    nextIs (exec .cli State.reset) (fun t => t.irqLag = true) = true ∧
    nextIs (exec .rti State.reset) (fun t => t.irqLag = true) = true :=
  ⟨by decide, rfl, by decide, by decide⟩

theorem witness_EntryAndReturnIgnoreAccB :
    completes (trapEntry 0x7FF6 State.reset) ∧ completes (exec .rti State.reset) ∧
    InRam 0x7FFE ∧ InRam (0x7FFE + 1) ∧ allWritable (frameAddrs (atSp 5)) ∧
    allWritable (frameAddrs (atSp 0x8007)) := by
  decide

/-- Both clauses at the ends of their ranges: the highest stack wholly writable, one address more, and a stack that wraps. -/
theorem witness_SoftwareInterruptIsEntered :
    allWritable (frameAddrs (atSp 5)) ∧ allWritable (frameAddrs (atSp 0x8007)) ∧
    ((frameAddrs (atSp 0x8008)).find? (fun x => !decide (Writable x)) = some 0x8008 ∧
      same (exec .swi (atSp 0x8008)) (.refused (.inputRegisterWrite 0x8008))) ∧
    ((frameAddrs (atSp 4)).find? (fun x => !decide (Writable x)) = some 0xFFFF ∧
      same (exec .swi (atSp 4)) (.fault (.invalidAccess 0xFFFF))) := by
  decide

theorem witness_InterruptFrameLayout :
    (5 ≤ (atSp 5).sp.toNat ∧ InRam (atSp 5).sp) ∧ (5 ≤ (atSp 0x7FFF).sp.toNat ∧ InRam (atSp 0x7FFF).sp) ∧
    (0x7FF0 : Word) ∉ frameAddrs (atSp 0x7FFF) := by decide

/-- The vectors of external interrupt 1 and of timer 2 holding the same handler address, the stack below both. -/
theorem witness_CausesLeaveNoTrace :
    (let s := { atSp 0x7FF5 with mem := [(0x7FF8, 0x02), (0x7FFE, 0x02)] }
     InRam 0x7FF8 ∧ InRam (0x7FF8 + 1) ∧ InRam 0x7FFE ∧ InRam (0x7FFE + 1) ∧
      [(0x7FF8 : Word), 0x7FF8 + 1, 0x7FFE, 0x7FFE + 1].all (fun a => decide (a ∉ frameAddrs s)) ∧
      joinBytes (s.ram 0x7FF8) (s.ram (0x7FF8 + 1)) = joinBytes (s.ram 0x7FFE) (s.ram (0x7FFE + 1)) ∧
      completes (trapEntry 0x7FF8 s)) := by decide

theorem witness_RtiUndoesSwi :
    (5 ≤ (atSp 5).sp.toNat ∧ InRam (atSp 5).sp) ∧ (5 ≤ (atSp 0x7FFF).sp.toNat ∧ InRam (atSp 0x7FFF).sp) := by decide

/-- A routine at 0x0200 that is a single RTI, with the stack at each end of its range. -/
def transparentAt (sp : Word) : State := { asking with sp := sp, mem := [(0x0200, 0x2D), (0x7FF8, 0x02)] }

theorem witness_InterruptAndReturnAreTransparent :
    ([(5 : Word), 0x7FF7].all fun sp =>
      let s := transparentAt sp
      decide (s.run = .running ∧ s.irqLag = false ∧ s.boundary.interruption = true ∧ 5 ≤ s.sp.toNat ∧ s.sp.toNat < 0x7FF8 ∧
        joinBytes (s.ram (Source.vector .ext1)) (s.ram (Source.vector .ext1 + 1)) = 0x0200 ∧
        InRam 0x0200 ∧ 0x0200 ∉ frameAddrs s ∧ s.ram 0x0200 = 0x2D)) = true ∧
    ∀ sp src, asks (transparentAt sp).boundary.dev src → src = .ext1 := by
  refine ⟨by decide, fun sp src h => ?_⟩
  cases src
  · rfl
  all_goals exact absurd h.1 Bool.false_ne_true

theorem witness_WaitingStuttersAndStoppedEnds :
    (let s := { State.reset with run := .waiting }
     s.run = .waiting ∧ s.boundary.interruption = false) ∧
    (let s := { asking with run := .waiting, ccr := { asking.ccr with i := true }, env := [busyTick] }
     s.run = .waiting ∧ s.ccr.i = true) ∧
    (let s := { State.reset with run := .stopped }
     s.run = .stopped ∧ step s = .fault .runEnded) := ⟨by decide, by decide, rfl, rfl⟩

/-- A timer's request with its enable bit 1 sets its flag, with its enable bit 0 it does not. -/
theorem witness_EnvironmentActsOnlyOnItsOwnState :
    State.reset.env = [] ∧
    (let s := { State.reset with env := [busyTick], dev := { Devices.reset with tmrctl := 0x08 } }
     s.env = busyTick :: [] ∧ s.boundary.dev.pendT1 = true ∧ s.boundary.dev.pendT2 = false ∧
      s.boundary.dev.pendExt1 = true ∧ s.boundary.dev.in2 = 0x22 ∧ s.boundary.env = []) := by decide

theorem witness_ReadsByRegion :
    InRam 0x0000 ∧ InRam 0x7FFF ∧ ¬ InRam 0x8000 ∧ Readable 0x800D ∧ ¬ Readable 0x800E ∧ ¬ Readable 0xFFFF := by decide

/-- A read of RAM at each end, of a register that gives its byte and of one that draws; a tick to come. -/
theorem witness_ReadsHaveNoSideEffect :
    completes (read8 0x0000 State.reset) ∧ InRam 0x0000 ∧ completes (read8 0x7FFF State.reset) ∧ InRam 0x7FFF ∧
    completes (read8 0x8006 State.reset) ∧ completes (read8 0x800D State.reset) ∧
    { State.reset with env := [busyTick] }.env = busyTick :: [] := by decide

theorem witness_WritesByRegion :
    InRam 0x0000 ∧ InRam 0x7FFF ∧ Writable 0x8007 ∧ (Readable 0x8008 ∧ ¬ Writable 0x8008) ∧
    (Readable 0x800D ∧ ¬ Writable 0x800D) ∧ ¬ Readable 0x800E ∧ ¬ Readable 0xFFFF := by decide

/-- Writing a byte and writing zero, at each end of RAM. -/
theorem witness_RamKeepsWhatWasWritten :
    InRam 0x7FFF ∧ completes (write8 0x7FFF 0xFF State.reset) ∧ InRam 0x0000 ∧ completes (write8 0x0000 0x00 State.reset) ∧
    (0x0000 : Word) ≠ 0x7FFF ∧ State.reset.mem.wf = true ∧
    completes (andThen (write8 0x0000 1 State.reset) (write8 0x7FFF 2)) ∧
    completes (andThen (write8 0x7FFF 2 State.reset) (write8 0x0000 1)) := by
  decide

theorem witness_WordsAreBigEndian : (InRam 0x0000 ∧ InRam (0x0000 + 1)) ∧ (InRam 0x7FFE ∧ InRam (0x7FFE + 1)) := by decide

theorem witness_AddFlagsMeanCarryAndOverflow :
    0 < 8 ∧ 0 < 16 ∧ (addFlags (0x7F : Byte) 0x00 true).v = true ∧ (addFlags (0xFF : Byte) 0x01 false).c = true ∧
    (addFlags (0xFF : Byte) 0x01 false).z = true := by decide

theorem witness_SubFlagsMeanBorrowAndOverflow :
    0 < 8 ∧ 0 < 16 ∧ (subFlags (0x80 : Byte) 0x01 false).v = true ∧ (subFlags (0x00 : Byte) 0x00 true).c = true ∧
    (subFlags (0x8000 : Word) 0x8000 false).z = true := by decide

/-- The divisor 0 and the divisors 1 and 255. -/
theorem witness_MulAndIdivResults :
    ({ State.reset with b := 0 }).b = 0 ∧ ({ State.reset with b := 1 }).b ≠ 0 ∧ ({ State.reset with b := 0xFF }).b ≠ 0 ∧
    completes (exec .idiv { State.reset with a := 0xFF, b := 0 }) = true := by decide

/-- Each condition met in one state and not in another. -/
theorem witness_ColumnOneBranches :
    (let f := State.reset.ccr
     f.h = false ∧ f.c = false ∧ f.z = false ∧ f.v = false ∧ f.n = false ∧ (f.c || f.z) = false ∧ xor f.n f.v = false ∧
      (f.z || xor f.n f.v) = false) ∧
    (let f := Ccr.ofByte 0x25
     f.h = true ∧ f.c = true ∧ f.z = true ∧ (f.c || f.z) = true) ∧
    (let f := Ccr.ofByte 0x0A
     f.v = true ∧ f.n = true ∧ xor f.n f.v = false) ∧
    (let f := Ccr.ofByte 0x02
     xor f.n f.v = true ∧ (f.z || xor f.n f.v) = true) ∧
    same (exec (.bhi 0xFE) State.reset) (.next { State.reset with pc := 0x00FE }) ∧
    same (exec (.bls 0xFE) State.reset) (.next State.reset) := by
  decide

/-- Each condition met in one state and not in another, and what BRA and BRN do there. -/
theorem witness_ConditionsOfTheSourceTable :
    (let f := State.reset.ccr
     f.c = false ∧ f.z = false ∧ f.v = false ∧ f.n = false ∧ xor f.n f.v = false) ∧
    (let f := Ccr.ofByte 0x0F
     f.c = true ∧ f.z = true ∧ f.v = true ∧ f.n = true ∧ xor f.n f.v = false) ∧
    (let f := Ccr.ofByte 0x08
     xor f.n f.v = true) ∧
    same (exec (.bra 0xFE) State.reset) (.next { State.reset with pc := 0x00FE }) ∧
    same (exec (.brn 0xFE) State.reset) (.next State.reset) := by
  decide

theorem witness_ColumnZeroBranchesAndBgt :
    (let f := State.reset.ccr
     f.i = false ∧ (f.z || xor f.n f.v) = false) ∧
    (let f := Ccr.ofByte 0x14
     f.i = true ∧ (f.z || xor f.n f.v) = true) := by decide

/-- A result of zero and a result that is not. -/
theorem witness_DecrementAndBranch :
    ({ State.reset with a := 1 }).a - 1 = 0 ∧ ({ State.reset with a := 0 }).a - 1 ≠ 0 ∧
    ({ State.reset with b := 1 }).b - 1 = 0 ∧ ({ State.reset with b := 0x80 }).b - 1 = 0x7F := by decide

/-- The last stack address that takes a write, the first that does not, and a second byte that does not; the same for reads. -/
theorem witness_PushAndPullResults :
    Writable ((atSp 0x8007).sp) ∧ same (exec .psha (atSp 0x8008)) (.refused (.inputRegisterWrite 0x8008)) ∧
    allWritable ((pushCells 0x1234 (atSp 0x8007)).map (·.1)) ∧
    ((pushCells 0x1234 (atSp 0)).find? (fun d => !decide (Writable d.1)) = some (0xFFFF, 0x12) ∧
      same (exec .pshx (atSp 0)) (.fault (.invalidAccess 0xFFFF))) ∧
    Readable ((atSp 0x800C).sp + 1) ∧ ¬ Readable ((atSp 0x800D).sp + 1) ∧
    (Readable ((atSp 0x800B).sp + 1) ∧ Readable ((atSp 0x800B).sp + 1 + 1)) ∧
    (Readable ((atSp 0x800C).sp + 1) ∧ ¬ Readable ((atSp 0x800C).sp + 1 + 1)) ∧
    same (exec .pula (atSp 0x800D)) (.fault (.invalidAccess 0x800E)) ∧ same (exec .rts (atSp 0x800C)) (.fault (.invalidAccess 0x800E)) := by
  decide

/-- All six bytes readable, the first one not, and only the sixth not. -/
theorem witness_RtiResult :
    (∀ k < 7, 1 ≤ k → Readable ((atSp 0x8007).sp + BitVec.ofNat 16 k)) ∧
    (∀ k < 7, 1 ≤ k → Readable ((atSp 0xFFFF).sp + BitVec.ofNat 16 k)) ∧
    ¬ Readable ((atSp 0x800D).sp + BitVec.ofNat 16 1) ∧
    ((∀ j < 6, 1 ≤ j → Readable ((atSp 0x8008).sp + BitVec.ofNat 16 j)) ∧
      ¬ Readable ((atSp 0x8008).sp + BitVec.ofNat 16 6)) := by decide

/-- An effective address at each end of the three regions: written back, refused, invalid. -/
theorem witness_NegIncDecResults :
    Writable (ixAddr 0xFF (atIx 0x7F08)) ∧
    (Readable (ixAddr 0 (atIx 0x8008)) ∧ ¬ Writable (ixAddr 0 (atIx 0x8008))) ∧ ¬ Readable (ixAddr 1 (atIx 0x800D)) ∧
    same (exec (.incExt 0x8008) State.reset) (.refused (.inputRegisterWrite 0x8008)) ∧
    same (exec (.decExt 0x800E) State.reset) (.fault (.invalidAccess 0x800E)) ∧
    completes (exec (.negExt 0x8007) State.reset) = true := by
  decide

theorem witness_ShiftAndRotateResults :
    Writable (ixAddr 0xFF (atIx 0x7F08)) ∧ (Readable 0x800D ∧ ¬ Writable 0x800D) ∧ ¬ Readable 0x800E ∧
    same (exec (.rolExt 0x800D) State.reset) (.refused (.inputRegisterWrite 0x800D)) ∧
    completes (exec (.asrIx 0xFF) (atIx 0x7F08)) = true := by
  decide

theorem witness_ClrResults :
    Writable (ixAddr 7 (atIx 0x8000)) ∧
    ([((0x8008 : Word), (0 : Byte))].find? (fun d => !decide (Writable d.1)) = some (0x8008, 0) ∧
      same (exec (.clrExt 0x8008) State.reset) (writeStop 0x8008)) ∧
    same (exec (.clrIx 0) (atIx 0x800E)) (writeStop 0x800E) := by
  decide

theorem witness_TstResults :
    InRam (ixAddr 0xFF (atIx 0x7F00)) ∧ (¬ InRam 0x8000 ∧ Readable 0x8000) ∧ (¬ InRam 0x800D ∧ Readable 0x800D) ∧
    ¬ Readable (ixAddr 0 (atIx 0x800E)) ∧ same (exec (.tstExt 0x800D) State.reset) (.refused (.testOfDevice 0x800D)) ∧
    same (exec (.tstIx 0) (atIx 0x800E)) (.fault (.invalidAccess 0x800E)) ∧
    completes (exec (.tstIx 0xFF) (atIx 0x7F00)) := by
  decide

/-- A selected bit set and none set, at the last readable address; the first that is not. -/
theorem witness_BitTestBranches :
    Readable (ixAddr 0x0D (atIx 0x8000)) ∧ ¬ Readable (ixAddr 0x0E (atIx 0x8000)) ∧
    same (exec (.brsetExt 0x800E 0 0) State.reset) (.fault (.invalidAccess 0x800E)) ∧
    same (exec (.brclrExt 0x8008 0x10 0xFB) State.reset) (.next { State.reset with pc := 0x00FB, ccr := { State.reset.ccr with z := false, c := false } }) ∧
    same (exec (.brsetExt 0x8008 0x10 0xFB) State.reset) (.next { State.reset with ccr := { State.reset.ccr with z := true, c := false } }) := by
  decide

theorem witness_BitClearSetMovAndJmpResults :
    Writable (ixAddr 0 (atIx 0x7FFF)) ∧ (Readable 0x8009 ∧ ¬ Writable 0x8009) ∧ ¬ Readable 0xFFFF ∧
    Writable 0x8006 ∧
    same (exec (.bsetExt 0x8009 1) State.reset) (.refused (.inputRegisterWrite 0x8009)) ∧
    same (exec (.movExt 0xFFFF 1) State.reset) (writeStop 0xFFFF) ∧
    same (exec (.jmpExt 0xFFFF) State.reset) (.next { State.reset with pc := 0xFFFF }) := by
  decide

theorem witness_EightBitArithmeticResults :
    Readable (ixAddr 0xFF (atIx 0x7F0E)) ∧ ¬ Readable (ixAddr 0xFF (atIx 0x7F0F)) ∧ Readable (atIx 0x800D).ix ∧
    ¬ Readable (atIx 0x800E).ix ∧ same (exec (.addaIxp none) (atIx 0x800E)) (.fault (.invalidAccess 0x800E)) ∧
    completes (exec (.sbcbIx 0xFF) (atIx 0x7F0E)) = true := by
  decide

theorem witness_EightBitLogicResults :
    Readable 0x800D ∧ ¬ Readable 0x800E ∧ same (exec (.bitaExt 0x800E) State.reset) (.fault (.invalidAccess 0x800E)) ∧
    same (exec (.ldaaIxp none) (atIx 0x7FFF)) (.next { atIx 0x8000 with ccr := { State.reset.ccr with z := true } }) ∧
    completes (exec (.ldabExt 0x8000) State.reset) = true := by
  decide

theorem witness_EightBitStoreResults :
    Writable ((atIx 0x8007).ix) ∧ same (exec (.staaIxp none) (atIx 0x8008)) (writeStop 0x8008) ∧
    Writable (ixAddr 0xFF (atIx 0xFF01)) ∧
    same (exec (.stabExt 0x800E) State.reset) (writeStop 0x800E) := by
  decide

/-- Both bytes readable, the first not, only the second not, and a word across the top of the address space. -/
theorem witness_SixteenBitArithmeticResults :
    (Readable (ixAddr 0x0C (atIx 0x8000)) ∧ Readable (ixAddr 0x0C (atIx 0x8000) + 1)) ∧
    ¬ Readable (atIx 0x800E).ix ∧ (Readable (atIx 0x800D).ix ∧ ¬ Readable ((atIx 0x800D).ix + 1)) ∧
    same (exec (.adddIxp none) (atIx 0x800D)) (.fault (.invalidAccess 0x800E)) ∧
    same (exec (.cpxExt 0xFFFF) State.reset) (.fault (.invalidAccess 0xFFFF)) ∧
    completes (exec (.subdExt 0x7FFF) State.reset) = true := by
  decide

theorem witness_SixteenBitLoadAndStoreResults :
    (Readable 0x800C ∧ Readable (0x800C + 1)) ∧ ¬ Readable 0x800E ∧ (Readable 0x800D ∧ ¬ Readable (0x800D + 1)) ∧
    same (exec (.ldxExt 0x800D) State.reset) (.fault (.invalidAccess 0x800E)) ∧
    same (exec (.ldsExt 0x800C) State.reset) (.next { State.reset with sp := 0, ccr := { State.reset.ccr with z := true } }) ∧
    allWritable ((wordCells (ixAddr 6 (atIx 0x8000)) 0x1234).map (·.1)) ∧
    ((wordCells 0x8007 0x1234).find? (fun d => !decide (Writable d.1)) = some (0x8008, 0x34) ∧
      same (exec (.stxExt 0x8007) (atIx 0x1234)) (writeStop 0x8008)) ∧
    same (exec (.stdIx 0) (atIx 0xFFFF)) (writeStop 0xFFFF) := by
  decide

theorem witness_CallResults :
    allWritable ((pushCells 0x0102 (atSp 1)).map (·.1)) ∧ allWritable ((pushCells 0x0102 (atSp 0x8007)).map (·.1)) ∧
    ((pushCells 0x0100 (atSp 0)).find? (fun d => !decide (Writable d.1)) = some (0xFFFF, 0x01) ∧
      same (exec (.bsr 0) (atSp 0)) (writeStop 0xFFFF)) ∧ same (exec (.jsrExt 0) (atSp 0x8008)) (writeStop 0x8008) := by
  decide

theorem witness_ReturnsUndoCalls :
    (1 ≤ (atSp 1).sp.toNat ∧ InRam (atSp 1).sp) ∧ (1 ≤ (atSp 0x7FFF).sp.toNat ∧ InRam (atSp 0x7FFF).sp) := by decide

theorem witness_SourceExamples : InRam ((atIx 0x0040).ix + 10) ∧ InRam ((atIx 0x7FF5).ix + 10) := by decide

theorem witness_StackCanOverwriteVectors :
    (atSp 0x7FF7).sp = 0x7FF7 ∧ (0x7FF8 ≤ (atSp 0x7FF8).sp.toNat ∧ (atSp 0x7FF8).sp.toNat ≤ 0x7FFF) ∧
    (0x7FF8 ≤ (atSp 0x7FFF).sp.toNat ∧ (atSp 0x7FFF).sp.toNat ≤ 0x7FFF) ∧ InRam (atSp 0).sp := by decide

/-- A store across the end of RAM, a store in RAM, instructions that store nothing; an address outside the stored ones. -/
theorem witness_MemoryAndDeviceFrame :
    completes (exec (.stdExt 0x7FFF) State.reset) ∧ (0x7FFE : Word) ∉ storeAddrs State.reset (.stdExt 0x7FFF) ∧
    completes (exec .pshx State.reset) ∧ allWritable (storeAddrs State.reset .pshx) ∧
    completes (exec (.staaExt 0x8006) State.reset) ∧ mmAddr .irqctl ∉ storeAddrs State.reset (.staaExt 0x8006) ∧
    mmAddr .out2 ∉ storeAddrs State.reset (.staaExt 0x8006) ∧ mmAddr .out1 ∉ storeAddrs State.reset (.staaExt 0x8000) ∧
    (changedBy .t1cntH).all (fun q => decide (mmAddr q ∉ storeAddrs State.reset (.staaExt 0x8000))) ∧
    completes (exec (.staaExt 0x8000) State.reset) ∧ completes (exec .stop State.reset) ∧ completes (exec .nop State.reset) ∧
    Instr.nop ≠ .stop ∧ Instr.nop ≠ .wait := by
  decide

theorem witness_FlagFrame :
    completes (exec (.addaImm 0x7F) State.reset) ∧ Flag.h ∉ flagsWritten (.addaImm 0x7F) ∧
    completes (exec .inca State.reset) ∧ Flag.c ∉ flagsWritten .inca ∧
    completes (exec .swi State.reset) ∧ Flag.n ∉ flagsWritten .swi := by
  decide

theorem witness_RegisterFrame :
    completes (exec .mul State.reset) ∧ Reg.ix ∉ regsWritten .mul ∧
    completes (exec (.staaIxp none) State.reset) ∧ Reg.a ∉ regsWritten (.staaIxp none) ∧
    completes (exec .rti State.reset) ∧ Reg.b ∉ regsWritten .rti := by
  decide

end Sys2Proof.Tests
end

section
/-! O24. A read has no side effect but the count of free values, and an input or a count reads as the tick presented it
(20_memory.md R78; 10_state.md R35, R41; 60_exceptions.md R360, R361). -/

namespace Sys2Proof.Machine

open Sys2Proof.Safety

/-! ## Reads of the registers, and the boundary -/

/-- An address of a register is read as that register. -/
theorem read8_mm {a : Word} {r : MmReg} (s : State) (ha : params.isRam a = false) (hr : mmReg a = some r) :
    read8 a s = .next (readMm r s) := by
  simp [read8, ha, hr]

/-- A byte read that completes changes no field but the count of free values. -/
theorem read8_next_frame {a : Word} {s t : State} {v : Byte} (h : read8 a s = .next (v, t)) :
    t = { s with draws := t.draws } := by
  rcases read8_next h with rfl | rfl <;> rfl

/-- A read of RAM that completes leaves the whole state as it was. -/
theorem read8_next_inRam {a : Word} {s t : State} {v : Byte} (ha : InRam a) (h : read8 a s = .next (v, t)) : t = s := by
  rw [read8_ram s (isRam_of_inRam ha)] at h
  cases h
  rfl

theorem State.dev_boundary_cons {s : State} {e : EnvTick} {rest : List EnvTick} (h : s.env = e :: rest) :
    s.boundary.dev = s.dev.tick e := by
  simp only [State.boundary, h]

@[simp] theorem Devices.in1_tick (d : Devices) (e : EnvTick) : (d.tick e).in1 = e.in1 := rfl
@[simp] theorem Devices.in2_tick (d : Devices) (e : EnvTick) : (d.tick e).in2 = e.in2 := rfl
@[simp] theorem Devices.t1cntH_tick (d : Devices) (e : EnvTick) : (d.tick e).t1cntH = e.t1cntH := by simp [Devices.tick]
@[simp] theorem Devices.t1cntL_tick (d : Devices) (e : EnvTick) : (d.tick e).t1cntL = e.t1cntL := by simp [Devices.tick]
@[simp] theorem Devices.t2cntH_tick (d : Devices) (e : EnvTick) : (d.tick e).t2cntH = e.t2cntH := by simp [Devices.tick]
@[simp] theorem Devices.t2cntL_tick (d : Devices) (e : EnvTick) : (d.tick e).t2cntL = e.t2cntL := by simp [Devices.tick]

/-- What a tick presents at a register that takes no write (R41, R360, R361). -/
def EnvTick.presents (e : EnvTick) : MmReg → Option Byte
  | .in1 => some e.in1
  | .in2 => some e.in2
  | .t1cntH => some e.t1cntH
  | .t1cntL => some e.t1cntL
  | .t2cntH => some e.t2cntH
  | .t2cntL => some e.t2cntL
  | _ => none

/-- Once a tick has happened, a register it presents a byte at reads as that byte, the state unchanged. -/
theorem readMm_of_presents {r : MmReg} {s : State} {d : Devices} {e : EnvTick} {v : Byte} (hd : s.dev = d.tick e)
    (hv : e.presents r = some v) : readMm r s = (v, s) := by
  cases r <;> cases hv <;> simp [readMm, hd]

/-- At a boundary with a tick to come, an address outside RAM reads as the tick presents its register. -/
theorem read8_boundary {a : Word} {r : MmReg} {s : State} {e : EnvTick} {rest : List EnvTick} {v : Byte}
    (he : s.env = e :: rest) (ha : params.isRam a = false) (hr : mmReg a = some r) (hv : e.presents r = some v) :
    read8 a s.boundary = .next (v, s.boundary) := by
  rw [read8_mm _ ha hr, readMm_of_presents (State.dev_boundary_cons he) hv]

/-! ## The statement -/

/-- Settles O24: the frame of a read from what a read can do, the input registers from what a tick presents. -/
theorem readsHaveNoSideEffect : Obligations.ReadsHaveNoSideEffect := by
  refine ⟨fun a v s t h => ⟨read8_next_frame h, fun ha => ?_⟩, fun s e rest he => ?_⟩
  · have hts : t = s := read8_next_inRam ha h
    exact ⟨hts, by rwa [hts] at h ⊢⟩
  · exact ⟨read8_boundary (r := .in1) he rfl rfl rfl, read8_boundary (r := .in2) he rfl rfl rfl,
      read8_boundary (r := .t1cntH) he rfl rfl rfl, read8_boundary (r := .t1cntL) he rfl rfl rfl,
      read8_boundary (r := .t2cntH) he rfl rfl rfl, read8_boundary (r := .t2cntL) he rfl rfl rfl⟩

end Sys2Proof.Machine
end

section
/-! O56. The source's two examples, ADDA #10, IX and INCA (30_encoding.md R133). -/

namespace Sys2Proof.Machine

open Sys2Proof.Safety

/-! ## A load from RAM, and the sum without a carry in -/

/-- A load whose effective address lies in RAM goes on with the byte there, the state unchanged by the read. -/
theorem load8_inRam {ea : Word} (f : Byte → State → State) (s : State) (h : InRam ea) :
    load8 ea f s = .next (f (s.ram ea) s) := by
  rw [load8, read8_ram s (isRam_of_inRam h), andThen_next]

/-- The result of ADD_n without a carry in is the sum of bit vectors. -/
@[simp] theorem addFlags_false_r {w : Nat} (a b : BitVec w) : (addFlags a b false).r = a + b := by
  simp [addFlags, BitVec.ofNat_add]

theorem addAcc_a_eq (v : Byte) (s : State) :
    addAcc .a v s = { s with a := s.a + v, ccr := s.ccr.arith (addFlags s.a v false) } := by
  simp [addAcc, State.acc, State.setAcc, State.setA, State.setCcr]

theorem rmwAcc_a_eq (f : UnaryOp) (s : State) :
    rmwAcc .a f s = { s with a := (f s.a s.ccr).1, ccr := (f s.a s.ccr).2 } := rfl

/-! ## The two instructions -/

theorem exec_addaIx (off : Byte) (s : State) : exec (.addaIx off) s = load8 (eaIx off s) (addAcc .a) s := rfl

theorem exec_inca (s : State) : exec .inca s = .next (rmwAcc .a incByte s) := rfl

/-- ADDA in IX mode, its effective address in RAM: A becomes its sum with the byte there (R109, R283). -/
theorem exec_addaIx_inRam {off : Byte} {s : State} (h : InRam (eaIx off s)) :
    exec (.addaIx off) s = .next { s with
      a := s.a + s.ram (eaIx off s), ccr := s.ccr.arith (addFlags s.a (s.ram (eaIx off s)) false) } := by
  rw [exec_addaIx, load8_inRam _ s h, addAcc_a_eq]

/-- The operand 10 of the printed example names the address IX + 10 (R109). -/
theorem eaIx_ten (s : State) : eaIx 10 s = s.ix + 10 := rfl

/-! ## The statement -/

/-- Settles O56: ADDA in IX mode where its effective address is IX + 10 in RAM, and INC on A. -/
theorem sourceExamples : Obligations.SourceExamples := by
  refine ⟨⟨rfl, fun s hram => ?_⟩, ⟨rfl, fun s => ?_⟩⟩
  · rw [← eaIx_ten s] at hram ⊢
    exact ⟨_, exec_addaIx_inRam hram⟩
  · exact ⟨_, by rw [exec_inca, rmwAcc_a_eq, incByte]⟩

end Sys2Proof.Machine
end

section
/-! O35 and O36. The branches of column 1 on their conditions (41_branches.md R160, R161, R168 to R181, R183). -/

namespace Sys2Proof.Machine

open Sys2Proof.Safety

/-! ## A branch taken and a branch passed over -/

@[simp] theorem branchIf_true (rel : Byte) (s : State) : branchIf true rel s = { s with pc := s.pc + rel.signExtend 16 } := rfl

@[simp] theorem branchIf_false (rel : Byte) (s : State) : branchIf false rel s = s := rfl

theorem exec_bra (rel : Byte) (s : State) : exec (.bra rel) s = .next (branchIf true rel s) := rfl

theorem exec_brn (rel : Byte) (s : State) : exec (.brn rel) s = .next (branchIf false rel s) := rfl

/-! ## A branch on a condition of the flags, as it is encoded and executed -/

/-- The instruction is its opcode and an offset byte, and does nothing but branch where the flags meet `cond` (R105, R160). -/
def BranchesIf (i : Byte → Instr) (op : Byte) (cond : Ccr → Bool) : Prop :=
  ∀ rel, encode (i rel) = [op, rel] ∧ ∀ s, exec (i rel) s = .next (branchIf (cond s.ccr) rel s)

section
variable {i : Byte → Instr} {op : Byte} {cond : Ccr → Bool}

/-- With its condition met, the branch goes to its target; else the state is as it was. -/
theorem BranchesIf.branches {P : State → Prop} (h : BranchesIf i op cond) (hP : ∀ s, cond s.ccr = true ↔ P s) :
    Branches i op P := by
  intro rel
  obtain ⟨henc, hexec⟩ := h rel
  refine ⟨henc, fun s => ⟨fun hmet => ?_, fun hnot => ?_⟩⟩
  · rw [hexec, (hP s).mpr hmet, branchIf_true]
  · have hcond : cond s.ccr = false := Bool.eq_false_iff.mpr (mt (hP s).mp hnot)
    rw [hexec, hcond, branchIf_false]

/-- With its condition met, the branch is BRA; else it is BRN. -/
theorem BranchesIf.likeBra {P : Ccr → Prop} (h : BranchesIf i op cond) (hP : ∀ f, cond f = true ↔ P f) :
    BranchesLikeBra i op P := by
  intro rel
  obtain ⟨henc, hexec⟩ := h rel
  refine ⟨by rw [henc, List.head?_cons], fun s => ⟨fun hmet => ?_, fun hnot => ?_⟩⟩
  · rw [hexec, (hP s.ccr).mpr hmet, exec_bra]
  · have hcond : cond s.ccr = false := Bool.eq_false_iff.mpr (mt (hP s.ccr).mp hnot)
    rw [hexec, hcond, exec_brn]

theorem BranchesIf.branches_onSet (h : BranchesIf i op cond) : Branches i op (fun s => cond s.ccr = true) :=
  h.branches fun _ => Iff.rfl

theorem BranchesIf.branches_onClear (h : BranchesIf i op (fun f => !cond f)) : Branches i op (fun s => cond s.ccr = false) :=
  h.branches fun s => iff_of_eq (Bool.not_eq_true' (cond s.ccr))

theorem BranchesIf.likeBra_onSet (h : BranchesIf i op cond) : BranchesLikeBra i op (fun f => cond f = true) :=
  h.likeBra fun _ => Iff.rfl

theorem BranchesIf.likeBra_onClear (h : BranchesIf i op (fun f => !cond f)) :
    BranchesLikeBra i op (fun f => cond f = false) :=
  h.likeBra fun f => iff_of_eq (Bool.not_eq_true' (cond f))

end

/-! ## The opcode and the condition of each branch -/

theorem branchesIf_bhcc : BranchesIf .bhcc 0x10 (fun f => !f.h) := fun _ => ⟨rfl, fun _ => rfl⟩
theorem branchesIf_bhcs : BranchesIf .bhcs 0x11 (fun f => f.h) := fun _ => ⟨rfl, fun _ => rfl⟩
theorem branchesIf_bhi : BranchesIf .bhi 0x12 (fun f => !(f.c || f.z)) := fun _ => ⟨rfl, fun _ => rfl⟩
theorem branchesIf_bls : BranchesIf .bls 0x13 (fun f => f.c || f.z) := fun _ => ⟨rfl, fun _ => rfl⟩
theorem branchesIf_bcc : BranchesIf .bcc 0x14 (fun f => !f.c) := fun _ => ⟨rfl, fun _ => rfl⟩
theorem branchesIf_bcs : BranchesIf .bcs 0x15 (fun f => f.c) := fun _ => ⟨rfl, fun _ => rfl⟩
theorem branchesIf_bne : BranchesIf .bne 0x16 (fun f => !f.z) := fun _ => ⟨rfl, fun _ => rfl⟩
theorem branchesIf_beq : BranchesIf .beq 0x17 (fun f => f.z) := fun _ => ⟨rfl, fun _ => rfl⟩
theorem branchesIf_bvc : BranchesIf .bvc 0x18 (fun f => !f.v) := fun _ => ⟨rfl, fun _ => rfl⟩
theorem branchesIf_bvs : BranchesIf .bvs 0x19 (fun f => f.v) := fun _ => ⟨rfl, fun _ => rfl⟩
theorem branchesIf_bpl : BranchesIf .bpl 0x1A (fun f => !f.n) := fun _ => ⟨rfl, fun _ => rfl⟩
theorem branchesIf_bmi : BranchesIf .bmi 0x1B (fun f => f.n) := fun _ => ⟨rfl, fun _ => rfl⟩
theorem branchesIf_bge : BranchesIf .bge 0x1C (fun f => !(xor f.n f.v)) := fun _ => ⟨rfl, fun _ => rfl⟩
theorem branchesIf_blt : BranchesIf .blt 0x1D (fun f => xor f.n f.v) := fun _ => ⟨rfl, fun _ => rfl⟩
theorem branchesIf_ble : BranchesIf .ble 0x1F (fun f => f.z || xor f.n f.v) := fun _ => ⟨rfl, fun _ => rfl⟩

/-! ## The statements -/

/-- Settles O35: each branch on its condition, which wants a value of the flags clear or set. -/
theorem columnOneBranches : Obligations.ColumnOneBranches :=
  ⟨branchesIf_bhcc.branches_onClear, branchesIf_bhcs.branches_onSet,
    branchesIf_bhi.branches_onClear, branchesIf_bls.branches_onSet,
    branchesIf_bcc.branches_onClear, branchesIf_bcs.branches_onSet,
    branchesIf_bne.branches_onClear, branchesIf_beq.branches_onSet,
    branchesIf_bvc.branches_onClear, branchesIf_bvs.branches_onSet,
    branchesIf_bpl.branches_onClear, branchesIf_bmi.branches_onSet,
    branchesIf_bge.branches_onClear, branchesIf_blt.branches_onSet,
    branchesIf_ble.branches_onSet⟩

/-- Settles O36: the same ten branches beside BRA and BRN, whose conditions are always and never. -/
theorem conditionsOfTheSourceTable : Obligations.ConditionsOfTheSourceTable :=
  ⟨branchesIf_bcc.likeBra_onClear, branchesIf_bcs.likeBra_onSet,
    branchesIf_bne.likeBra_onClear, branchesIf_beq.likeBra_onSet,
    branchesIf_bvc.likeBra_onClear, branchesIf_bvs.likeBra_onSet,
    branchesIf_bpl.likeBra_onClear, branchesIf_bmi.likeBra_onSet,
    branchesIf_bge.likeBra_onClear, branchesIf_blt.likeBra_onSet⟩

end Sys2Proof.Machine
end

section
/-! O15 and O18. What an interrupt entry does, as six byte stores and one word read (60_exceptions.md R345, R346): neither it nor
the return touches ACCB (R349; 70_reset_and_hazards.md R404), and nothing of the cause is left but where it went (R342). -/

namespace Sys2Proof.Machine

open Sys2Proof.Safety

/-! ## Operations one after the other -/

section
variable {α β γ : Type}

theorem andThen_assoc (x : Res α) (f : α → Res β) (g : β → Res γ) :
    andThen (andThen x f) g = andThen x fun v => andThen (f v) g := by
  cases x <;> rfl

/-- Two continuations that agree on the value of the first operation give one result. -/
theorem andThen_congr {x : Res α} {f g : α → Res β} (h : ∀ v, x = .next v → f v = g v) : andThen x f = andThen x g := by
  cases x with
  | next v => exact h v rfl
  | fault r => rfl
  | refused r => rfl

end

/-! ## Register updates and byte writes change places -/

/-- An update of the state that touches neither RAM, the devices nor the noted stores: all a byte write sees and changes. -/
structure OffBus (g : State → State) : Prop where
  dev_eq (s : State) : (g s).dev = s.dev
  setDev_comm (s : State) (d : Devices) : (g s).setDev d = g (s.setDev d)
  storeRam_comm (s : State) (a : Word) (v : Byte) : (g s).storeRam a v = g (s.storeRam a v)

theorem offBus_setB (x : Byte) : OffBus (·.setB x) := ⟨fun _ => rfl, fun _ _ => rfl, fun _ _ _ => rfl⟩

theorem offBus_setSp (w : Word) : OffBus (·.setSp w) := ⟨fun _ => rfl, fun _ _ => rfl, fun _ _ _ => rfl⟩

theorem offBus_drew (n : Nat) : OffBus (·.drew n) := ⟨fun _ => rfl, fun _ _ => rfl, fun _ _ _ => rfl⟩

theorem OffBus.write8 {g : State → State} (hg : OffBus g) (a : Word) (v : Byte) (s : State) :
    write8 a v (g s) = andThen (write8 a v s) fun t => .next (g t) := by
  unfold Machine.write8
  by_cases hr : params.isRam a = true
  · simp [hr, hg.storeRam_comm]
  · cases hm : mmReg a with
    | none => simp [hr]
    | some r => cases hd : s.dev.write r v <;> simp [hr, hg.dev_eq, hd, hg.setDev_comm]

/-! ## Several byte writes -/

/-- The bytes of a list written in their order, up to the first address that takes no write. -/
def storeCells : List (Word × Byte) → State → Res State
  | [], s => .next s
  | c :: rest, s => andThen (write8 c.1 c.2 s) (storeCells rest)

@[simp] theorem storeCells_nil (s : State) : storeCells [] s = .next s := rfl

theorem storeCells_cons (c : Word × Byte) (rest : List (Word × Byte)) (s : State) :
    storeCells (c :: rest) s = andThen (write8 c.1 c.2 s) (storeCells rest) := rfl

theorem storeCells_append (xs ys : List (Word × Byte)) (s : State) :
    storeCells (xs ++ ys) s = andThen (storeCells xs s) (storeCells ys) := by
  induction xs generalizing s with
  | nil => rfl
  | cons c rest ih =>
    rw [List.cons_append, storeCells_cons, storeCells_cons, andThen_assoc]
    exact andThen_congr fun t _ => ih t

theorem OffBus.storeCells {g : State → State} (hg : OffBus g) (cells : List (Word × Byte)) (s : State) :
    storeCells cells (g s) = andThen (storeCells cells s) fun t => .next (g t) := by
  induction cells generalizing s with
  | nil => rfl
  | cons c rest ih =>
    rw [storeCells_cons, storeCells_cons, hg.write8, andThen_assoc, andThen_assoc]
    exact andThen_congr fun t _ => ih t

/-- Where every address takes a write, all the bytes are written. -/
theorem storeCells_of_writable {cells : List (Word × Byte)} (s : State) (h : ∀ c ∈ cells, Writable c.1) :
    storeCells cells s = .next (writeCells cells s) := by
  induction cells generalizing s with
  | nil => rfl
  | cons c rest ih =>
    obtain ⟨hc, hrest⟩ := List.forall_mem_cons.mp h
    rw [storeCells_cons, write8_of_writable _ _ hc, andThen_next, ih _ hrest, writeCells]

/-- A byte write that completes changes RAM, the devices and the noted stores alone. -/
theorem write8_next_frame {a : Word} {v : Byte} {s t : State} (h : write8 a v s = .next t) :
    t = { s with mem := t.mem, dev := t.dev, stores := t.stores } := by
  rcases write8_next h with ⟨-, rfl⟩ | ⟨-, _, _, -, -, rfl⟩ <;> rfl

/-- A byte write that completes changes no other byte of RAM. -/
theorem write8_next_ram_other {a b : Word} {v : Byte} {s t : State} (h : write8 a v s = .next t) (hb : b ≠ a) :
    t.ram b = s.ram b := by
  rcases write8_next h with ⟨-, rfl⟩ | ⟨-, _, _, -, -, rfl⟩
  · exact State.ram_storeRam_other s v hb
  · rfl

theorem storeCells_next_frame {cells : List (Word × Byte)} {s t : State} (h : storeCells cells s = .next t) :
    t = { s with mem := t.mem, dev := t.dev, stores := t.stores } := by
  induction cells generalizing s with
  | nil => cases h; rfl
  | cons c rest ih =>
    obtain ⟨u, hu, hrest⟩ := andThen_eq_next.mp h
    have hts := ih hrest
    rwa [write8_next_frame hu] at hts

theorem storeCells_next_ram_other {cells : List (Word × Byte)} {s t : State} {a : Word}
    (h : storeCells cells s = .next t) (ha : a ∉ cells.map Prod.fst) : t.ram a = s.ram a := by
  induction cells generalizing s with
  | nil => cases h; rfl
  | cons c rest ih =>
    obtain ⟨u, hu, hrest⟩ := andThen_eq_next.mp h
    obtain ⟨hc, hnot⟩ := not_or.mp (mt List.mem_cons.mpr ha)
    rw [ih hrest hnot, write8_next_ram_other hu hc]

/-! ## Pushes, and a word read from RAM -/

theorem push8_eq (v : Byte) (s : State) :
    push8 v s = andThen (write8 s.sp v s) fun t => .next (t.setSp (s.sp - 1)) :=
  andThen_congr fun t ht => by rw [write8_next_frame ht]

/-- A word push writes two bytes downwards from SP, and SP goes down by 2 (R12). -/
theorem push16_eq (w : Word) (s : State) :
    push16 w s = andThen (storeCells (pushCells w s) s) fun t => .next (t.setSp (s.sp - 2)) := by
  have hsp : s.sp - 1 - 1 = s.sp - 2 := by bv_omega
  have hlast : ∀ t : State, push8 (hiByte w) (t.setSp (s.sp - 1)) =
      andThen (write8 (s.sp - 1) (hiByte w) t) fun u => .next (u.setSp (s.sp - 2)) := by
    intro t
    rw [push8_eq, State.sp_setSp, hsp, (offBus_setSp _).write8, andThen_assoc]
    rfl
  simp only [push16, push8_eq _ s, pushCells, storeCells, andThen_assoc, andThen_next, hlast]

/-- The same, on a state whose SP has just been set. -/
theorem push16_setSp (w p : Word) (s : State) :
    push16 w (s.setSp p) =
      andThen (storeCells [(p, loByte w), (p - 1, hiByte w)] s) fun t => .next (t.setSp (p - 2)) := by
  rw [push16_eq, State.sp_setSp, (offBus_setSp p).storeCells, andThen_assoc]
  rfl

/-- A word wholly in RAM is read without a change to the state. -/
theorem read16_inRam {a : Word} (s : State) (h0 : InRam a) (h1 : InRam (a + 1)) :
    read16 a s = .next (joinBytes (s.ram a) (s.ram (a + 1)), s) := by
  simp only [read16, read8_ram _ (isRam_of_inRam h0), read8_ram _ (isRam_of_inRam h1), andThen_next]

/-! ## The entry -/

theorem map_fst_entryCells (free : Byte) (s : State) : (entryCells free s).map Prod.fst = frameAddrs s := rfl

/-- The frame is three word pushes' bytes (R346). -/
theorem entryCells_eq (free : Byte) (s : State) :
    entryCells free s = [(s.sp, loByte s.pc), (s.sp - 1, hiByte s.pc)] ++
      ([(s.sp - 2, loByte s.ix), (s.sp - 2 - 1, hiByte s.ix)] ++
        [(s.sp - 4, s.a), (s.sp - 4 - 1, s.ccr.toByte free)]) := by
  have h3 : s.sp - 2 - 1 = s.sp - 3 := by bv_omega
  have h5 : s.sp - 4 - 1 = s.sp - 5 := by bv_omega
  rw [h3, h5]
  rfl

/-- The second word push of an entry, SP being 2 down. -/
theorem push16_ix_setSp (p : Word) (s : State) :
    push16 (s.setSp p).ix (s.setSp p) =
      andThen (storeCells [(p, loByte s.ix), (p - 1, hiByte s.ix)] s) fun t => .next (t.setSp (p - 2)) :=
  push16_setSp s.ix p s

/-- The third word push of an entry: A at the higher address, the CCR byte, drawn first, at the lower. -/
theorem push16_ccr_setSp (p : Word) (s : State) :
    push16 (joinBytes (s.setSp p).drawCcrByte.1 (s.setSp p).a) (s.setSp p).drawCcrByte.2 =
      andThen (storeCells [(p, s.a), (p - 1, s.ccr.toByte (Config.freeByte s.draws))] s) fun t =>
      .next ((t.drew 1).setSp (p - 2)) := by
  have hdraw : (s.setSp p).drawCcrByte = (s.ccr.toByte (Config.freeByte s.draws), (s.drew 1).setSp p) := rfl
  rw [hdraw, push16_setSp, loByte_joinBytes, hiByte_joinBytes, State.a_setSp, (offBus_drew 1).storeCells, andThen_assoc]
  rfl

/-- An interrupt entry is the six byte writes of the frame, SP down by 6, I set, and PC the word then at the vector (R345). -/
theorem trapEntry_eq (vector : Word) (s : State) :
    trapEntry vector s =
      andThen (storeCells (entryCells (Config.freeByte s.draws) s) s) fun t =>
      andThen (read16 vector (((t.drew 1).setSp (s.sp - 6)).setCcr { s.ccr with i := true })) fun p =>
      .next (p.2.setPc p.1) := by
  have h4 : s.sp - 2 - 2 = s.sp - 4 := by bv_omega
  have h6 : s.sp - 4 - 2 = s.sp - 6 := by bv_omega
  rw [trapEntry, push16_eq, entryCells_eq, storeCells_append, andThen_assoc, andThen_assoc]
  refine andThen_congr fun t ht => ?_
  rw [andThen_next, push16_ix_setSp, storeCells_append, andThen_assoc, andThen_assoc, h4, storeCells_next_frame ht]
  refine andThen_congr fun u hu => ?_
  rw [andThen_next, push16_ccr_setSp, andThen_assoc, h6, storeCells_next_frame hu]
  refine andThen_congr fun x hx => ?_
  rw [storeCells_next_frame hx]
  rfl

/-- What an entry leaves of the state `t` after its six byte writes, `s` being the state before and `handler` the word at the
vector. -/
def entered (s t : State) (handler : Word) : State :=
  (((t.drew 1).setSp (s.sp - 6)).setCcr { s.ccr with i := true }).setPc handler

/-- With the vector in RAM, an entry goes wherever the word there names, and nothing else depends on the vector. -/
theorem trapEntry_inRam {vector : Word} (s : State) (h0 : InRam vector) (h1 : InRam (vector + 1)) :
    trapEntry vector s =
      andThen (storeCells (entryCells (Config.freeByte s.draws) s) s) fun t =>
      .next (entered s t (joinBytes (t.ram vector) (t.ram (vector + 1)))) := by
  simp only [trapEntry_eq, read16_inRam _ h0 h1, andThen_next]
  rfl

/-- An entry with its frame writable and its vector in RAM completes with what `afterEntry` says (R345, R346). -/
theorem trapEntry_of_writable {vector : Word} {s : State} (h0 : InRam vector) (h1 : InRam (vector + 1))
    (hw : ∀ a ∈ frameAddrs s, Writable a) :
    trapEntry vector s = .next (afterEntry vector (Config.freeByte s.draws) s) := by
  have hstore : storeCells (entryCells (Config.freeByte s.draws) s) s =
      .next (writeCells (entryCells (Config.freeByte s.draws) s) s) :=
    storeCells_of_writable s fun c hc => hw c.1 (map_fst_entryCells _ s ▸ List.mem_map_of_mem hc)
  have hdraws : (writeCells (entryCells (Config.freeByte s.draws) s) s).draws = s.draws := by
    rw [storeCells_next_frame hstore]
  rw [trapEntry_inRam s h0 h1, hstore, andThen_next, afterEntry]
  generalize writeCells (entryCells (Config.freeByte s.draws) s) s = w at hdraws
  rw [← hdraws]
  rfl

/-! ## Operations that have nothing to do with ACCB -/

/-- An operation on the state that neither reads nor writes ACCB: it gives the same whatever B holds, and passes B through. -/
def IgnoresB (f : State → Res State) : Prop :=
  ∀ (s : State) (x : Byte), f (s.setB x) = andThen (f s) fun t => .next (t.setB x)

/-- What ignores ACCB leaves it as it was. -/
theorem IgnoresB.b_eq {f : State → Res State} (hf : IgnoresB f) {s t : State} (h : f s = .next t) : t.b = s.b := by
  have hput : f s = .next (t.setB s.b) := by
    calc f s = andThen (f s) fun t => .next (t.setB s.b) := hf s s.b
      _ = .next (t.setB s.b) := by rw [h, andThen_next]
  have ht : t = t.setB s.b := by rw [h] at hput; injection hput
  rw [ht, State.b_setB]

/-! Reads and writes pass ACCB through; so does what is made of them. -/

theorem readMm_setB (r : MmReg) (s : State) (x : Byte) :
    readMm r (s.setB x) = ((readMm r s).1, (readMm r s).2.setB x) := by
  cases r <;> rfl

theorem read8_setB (a : Word) (s : State) (x : Byte) :
    read8 a (s.setB x) = andThen (read8 a s) fun p => .next (p.1, p.2.setB x) := by
  unfold read8
  by_cases hr : params.isRam a = true
  · simp only [hr, if_true, andThen_next]; rfl
  · cases hm : mmReg a with
    | none => simp [hr]
    | some r => simp [hr, readMm_setB]

theorem read16_setB (a : Word) (s : State) (x : Byte) :
    read16 a (s.setB x) = andThen (read16 a s) fun p => .next (p.1, p.2.setB x) := by
  simp only [read16, read8_setB, andThen_assoc, andThen_next]

theorem pull8_setB (s : State) (x : Byte) :
    pull8 (s.setB x) = andThen (pull8 s) fun p => .next (p.1, p.2.setB x) :=
  read8_setB (s.sp + 1) (s.setSp (s.sp + 1)) x

theorem pull16_setB (s : State) (x : Byte) :
    pull16 (s.setB x) = andThen (pull16 s) fun p => .next (p.1, p.2.setB x) := by
  simp only [pull16, pull8_setB, andThen_assoc, andThen_next]

theorem trapEntry_ignoresB (vector : Word) : IgnoresB (trapEntry vector) := by
  intro s x
  have hcells : entryCells (Config.freeByte (s.setB x).draws) (s.setB x) = entryCells (Config.freeByte s.draws) s := rfl
  rw [trapEntry_eq, trapEntry_eq, hcells, (offBus_setB x).storeCells, andThen_assoc, andThen_assoc]
  refine andThen_congr fun t _ => ?_
  have hset : (((t.setB x).drew 1).setSp (s.sp - 6)).setCcr { s.ccr with i := true } =
      (((t.drew 1).setSp (s.sp - 6)).setCcr { s.ccr with i := true }).setB x := rfl
  rw [andThen_next, State.sp_setB, State.ccr_setB, hset, read16_setB, andThen_assoc, andThen_assoc]
  rfl

theorem trapReturn_ignoresB : IgnoresB trapReturn := by
  intro s x
  have hafterFirst : ∀ (t : State) (c : Ccr) (v : Byte), ((t.setB x).setCcr c).setA v = ((t.setCcr c).setA v).setB x :=
    fun _ _ _ => rfl
  have hafterSecond : ∀ (t : State) (w : Word), (t.setB x).setIx w = (t.setIx w).setB x := fun _ _ => rfl
  simp only [trapReturn, pull16_setB, hafterFirst, hafterSecond, andThen_assoc, andThen_next]
  rfl

theorem exec_rti (s : State) : exec .rti s = trapReturn s := rfl

theorem exec_rti_ignoresB : IgnoresB (exec .rti) := fun s x => by
  rw [exec_rti, exec_rti, trapReturn_ignoresB s x]

/-! ## The statements -/

/-- Settles O15: entry and RTI commute with a change of ACCB, so they leave it as it was; and the six bytes an entry writes are
those of `afterEntry`, for the free byte drawn. -/
theorem entryAndReturnIgnoreAccB : Obligations.EntryAndReturnIgnoreAccB :=
  ⟨fun vector => trapEntry_ignoresB vector, exec_rti_ignoresB, fun vector _ _ h => (trapEntry_ignoresB vector).b_eq h,
    fun _ _ h => exec_rti_ignoresB.b_eq h, fun _ s h0 h1 hw => ⟨Config.freeByte s.draws, trapEntry_of_writable h0 h1 hw⟩⟩

/-- Settles O18: an entry depends on its vector only through the word there after the frame is stacked, and stacking changes
neither vector. -/
theorem causesLeaveNoTrace : Obligations.CausesLeaveNoTrace := by
  intro v w s hv0 hv1 hw0 hw1 hclear hsame
  rw [trapEntry_inRam s hv0 hv1, trapEntry_inRam s hw0 hw1]
  refine andThen_congr fun t ht => ?_
  have hkept : ∀ a ∈ [v, v + 1, w, w + 1], t.ram a = s.ram a := fun a ha =>
    storeCells_next_ram_other ht (map_fst_entryCells _ s ▸ hclear a ha)
  rw [hkept v (by simp), hkept (v + 1) (by simp), hkept w (by simp), hkept (w + 1) (by simp), hsame]

end Sys2Proof.Machine
end

section
/-! O57. The stack is not checked against the vectors: a push anywhere in RAM completes, the vector area included
(70_reset_and_hazards.md R401; 20_memory.md R72). -/

namespace Sys2Proof.Machine

open Sys2Proof.Safety

/-! ## Pushes to RAM -/

@[simp] theorem State.ram_setSp (s : State) (w a : Word) : (s.setSp w).ram a = s.ram a := rfl

/-- A byte pushed with SP in RAM is stored there, and SP goes down by 1 (R12). -/
theorem push8_inRam (v : Byte) {s : State} (h : InRam s.sp) :
    push8 v s = .next ((s.storeRam s.sp v).setSp (s.sp - 1)) := by
  rw [push8_eq, write8_ram v s (isRam_of_inRam h), andThen_next]

/-- A word pushed with both its bytes in RAM is stored there, the low byte first, and SP goes down by 2 (R12). -/
theorem push16_inRam (w : Word) {s : State} (h0 : InRam s.sp) (h1 : InRam (s.sp - 1)) :
    push16 w s =
      .next (((s.storeRam s.sp (loByte w)).storeRam (s.sp - 1) (hiByte w)).setSp (s.sp - 2)) := by
  simp only [push16_eq, pushCells, storeCells_cons, storeCells_nil, write8_ram _ _ (isRam_of_inRam h0),
    write8_ram _ _ (isRam_of_inRam h1), andThen_next]

/-- A word stored as its low byte at `a` and then its high byte at `a - 1` reads back whole. -/
theorem joinBytes_ram_pushed (s : State) (a w : Word) :
    joinBytes (((s.storeRam a (loByte w)).storeRam (a - 1) (hiByte w)).ram (a - 1))
      (((s.storeRam a (loByte w)).storeRam (a - 1) (hiByte w)).ram a) = w := by
  have hne : a ≠ a - 1 := by bv_omega
  rw [State.ram_storeRam_same, State.ram_storeRam_other _ _ hne, State.ram_storeRam_same, joinBytes_hi_lo]

/-! ## The two instructions -/

theorem exec_psha (s : State) : exec .psha s = push8 s.a s := rfl

theorem exec_pshx (s : State) : exec .pshx s = push16 s.ix s := rfl

/-- PSHA with SP in RAM completes, A stored at the old SP, and SP goes down by 1 (R201). -/
theorem exec_psha_inRam {s : State} (h : InRam s.sp) :
    ∃ t, exec .psha s = .next t ∧ t.ram s.sp = s.a ∧ t.sp = s.sp - 1 := by
  refine ⟨_, by rw [exec_psha, push8_inRam _ h], ?_, State.sp_setSp _ _⟩
  rw [State.ram_setSp, State.ram_storeRam_same]

/-- PSHX with SP and SP - 1 in RAM completes, the word at SP - 1 being IX (R198). -/
theorem exec_pshx_inRam {s : State} (h0 : InRam s.sp) (h1 : InRam (s.sp - 1)) :
    ∃ t, exec .pshx s = .next t ∧ joinBytes (t.ram (s.sp - 1)) (t.ram s.sp) = s.ix := by
  refine ⟨_, by rw [exec_pshx, push16_inRam _ h0 h1], ?_⟩
  rw [State.ram_setSp, State.ram_setSp, joinBytes_ram_pushed]

/-! ## The statement -/

/-- Settles O57: the vectors lie in RAM, so the pushes are those of any SP in RAM; the word at the SWI vector is the one
just below SP = 0x7FF7. -/
theorem stackCanOverwriteVectors : Obligations.StackCanOverwriteVectors := by
  refine ⟨fun s hsp => ?_, fun s _ htop => ?_, fun s hram => exec_psha_inRam hram⟩
  · have hvec : s.sp - 1 = 0x7FF6 := by rw [hsp]; rfl
    rw [← hvec, ← hsp]
    exact exec_pshx_inRam (by rw [hsp]; decide) (by rw [hvec]; decide)
  · obtain ⟨t, ht, hbyte, -⟩ := exec_psha_inRam (s := s) (Nat.lt_succ_of_le htop)
    exact ⟨t, ht, hbyte⟩

end Sys2Proof.Machine
end

section
/-! O1 to O4. The decoder and the encoder undo each other, and the opcode byte alone says how many operand bytes follow
(30_encoding.md R100, R112, R114, R120 to R122). -/

namespace Sys2Proof

/-! ## What a cell of the opcode map does with the bytes after the opcode -/

/-- A cell of the map that takes `n` operand bytes: where they are there it decodes them, to the well-formed instruction they
spell, and else the bytes are truncated. -/
structure ReadsOperands (op : Byte) (n : Nat) (d : List Byte → DecodeResult) : Prop where
  atMostFour : n ≤ 4
  decoded : ∀ (bs rest : List Byte) (i : Instr), d bs = .ok i rest →
    i.wf = true ∧ op :: bs = encode i ++ rest ∧ bs.length = n + rest.length
  enough : ∀ bs : List Byte, n ≤ bs.length → ∃ i rest, d bs = .ok i rest
  short : ∀ bs : List Byte, bs.length < n → d bs = .truncated

section
variable {op : Byte}

theorem reads_inh {i : Instr} (hwf : i.wf = true) (henc : encode i = [op]) : ReadsOperands op 0 (decodeInh i) where
  atMostFour := by decide
  decoded := by rintro bs rest j ⟨⟩; exact ⟨hwf, by simp [henc], by simp⟩
  enough bs _ := ⟨i, bs, rfl⟩
  short bs h := absurd h (Nat.not_lt_zero _)

/-- An IX+ cell, which takes no operand byte in this configuration (P_IXP_OFFSET false). -/
theorem reads_ixp {f : Option Byte → Instr} (hwf : (f none).wf = true) (henc : encode (f none) = [op]) :
    ReadsOperands op 0 (decodeIxp1 f) := reads_inh hwf henc

theorem reads_byte1 {f : Byte → Instr} (h : ∀ x, (f x).wf = true ∧ encode (f x) = [op, x]) :
    ReadsOperands op 1 (decodeByte1 f) where
  atMostFour := by decide
  decoded
    | x :: bs, rest, j, hd => by cases hd; simp [h x, Nat.add_comm]
  enough
    | x :: bs, _ => ⟨_, _, rfl⟩
  short
    | [], _ => rfl
    | _ :: bs, hlt => absurd hlt (by simp only [List.length_cons]; omega)

theorem reads_byte2 {f : Byte → Byte → Instr} (h : ∀ x y, (f x y).wf = true ∧ encode (f x y) = [op, x, y]) :
    ReadsOperands op 2 (decodeByte2 f) where
  atMostFour := by decide
  decoded
    | x :: y :: bs, rest, j, hd => by cases hd; simp [h x y]; omega
  enough
    | x :: y :: bs, _ => ⟨_, _, rfl⟩
  short
    | [], _ => rfl
    | [_], _ => rfl
    | _ :: _ :: bs, hlt => absurd hlt (by simp only [List.length_cons]; omega)

theorem reads_byte3 {f : Byte → Byte → Byte → Instr}
    (h : ∀ x y z, (f x y z).wf = true ∧ encode (f x y z) = [op, x, y, z]) : ReadsOperands op 3 (decodeByte3 f) where
  atMostFour := by decide
  decoded
    | x :: y :: z :: bs, rest, j, hd => by cases hd; simp [h x y z]; omega
  enough
    | x :: y :: z :: bs, _ => ⟨_, _, rfl⟩
  short
    | [], _ => rfl
    | [_], _ => rfl
    | [_, _], _ => rfl
    | _ :: _ :: _ :: bs, hlt => absurd hlt (by simp only [List.length_cons]; omega)

theorem reads_word1 {f : Word → Instr} (h : ∀ w, (f w).wf = true ∧ encode (f w) = [op, hiByte w, loByte w]) :
    ReadsOperands op 2 (decodeWord1 f) where
  atMostFour := by decide
  decoded
    | x :: y :: bs, rest, j, hd => by cases hd; simp [h (joinBytes x y)]; omega
  enough
    | x :: y :: bs, _ => ⟨_, _, rfl⟩
  short
    | [], _ => rfl
    | [_], _ => rfl
    | _ :: _ :: bs, hlt => absurd hlt (by simp only [List.length_cons]; omega)

theorem reads_wordByte {f : Word → Byte → Instr}
    (h : ∀ w m, (f w m).wf = true ∧ encode (f w m) = [op, hiByte w, loByte w, m]) : ReadsOperands op 3 (decodeWordByte f) where
  atMostFour := by decide
  decoded
    | x :: y :: z :: bs, rest, j, hd => by cases hd; simp [h (joinBytes x y) z]; omega
  enough
    | x :: y :: z :: bs, _ => ⟨_, _, rfl⟩
  short
    | [], _ => rfl
    | [_], _ => rfl
    | [_, _], _ => rfl
    | _ :: _ :: _ :: bs, hlt => absurd hlt (by simp only [List.length_cons]; omega)

theorem reads_wordByte2 {f : Word → Byte → Byte → Instr}
    (h : ∀ w m rel, (f w m rel).wf = true ∧ encode (f w m rel) = [op, hiByte w, loByte w, m, rel]) :
    ReadsOperands op 4 (decodeWordByte2 f) where
  atMostFour := by decide
  decoded
    | x :: y :: z :: u :: bs, rest, j, hd => by cases hd; simp [h (joinBytes x y) z u]; omega
  enough
    | x :: y :: z :: u :: bs, _ => ⟨_, _, rfl⟩
  short
    | [], _ => rfl
    | [_], _ => rfl
    | [_, _], _ => rfl
    | [_, _, _], _ => rfl
    | _ :: _ :: _ :: _ :: bs, hlt => absurd hlt (by simp only [List.length_cons]; omega)

end

/-! ## The map, column by column -/

/-- What decoding from an opcode byte does, given the count of operand bytes the model states for it. -/
def CellDoes (op : Byte) (d : List Byte → DecodeResult) : Option Nat → Prop
  | none => ∀ bs, d bs = .illegal op
  | some n => ReadsOperands op n d

/-- The decoder at an opcode byte does what `operandBytes` says of it. -/
def MapCell (op : Byte) : Prop := CellDoes op (decodeOp op) (operandBytes op)

theorem column0_cells : ∀ r < 16, MapCell (BitVec.ofNat 8 (16 * 0 + r))
  | 0, _ | 1, _ | 8, _ | 9, _ | 10, _ | 11, _ | 12, _ | 13, _ | 14, _ | 15, _ => reads_inh rfl rfl
  | 2, _ | 3, _ | 4, _ | 5, _ | 6, _ | 7, _ => reads_byte1 fun _ => ⟨rfl, rfl⟩
  | n + 16, h => absurd h (by omega)

theorem column1_cells : ∀ r < 16, MapCell (BitVec.ofNat 8 (16 * 1 + r)) := by
  intro r hr
  interval_cases r <;> exact reads_byte1 fun _ => ⟨rfl, rfl⟩

theorem column2_cells : ∀ r < 16, MapCell (BitVec.ofNat 8 (16 * 2 + r)) := by
  intro r hr
  interval_cases r <;> exact reads_inh rfl rfl

theorem column3_cells : ∀ r < 16, MapCell (BitVec.ofNat 8 (16 * 3 + r))
  | 0, _ | 1, _ | 2, _ | 3, _ | 4, _ | 5, _ | 6, _ | 7, _ | 8, _ | 9, _ | 10, _ | 12, _ | 14, _ | 15, _ =>
  reads_inh rfl rfl
  | 11, _ | 13, _ => fun _ => rfl
  | n + 16, h => absurd h (by omega)

theorem column4_cells : ∀ r < 16, MapCell (BitVec.ofNat 8 (16 * 4 + r))
  | 0, _ | 1, _ | 2, _ | 3, _ | 4, _ | 5, _ | 6, _ | 7, _ | 8, _ | 9, _ | 12, _ | 14, _ => reads_inh rfl rfl
  | 10, _ | 11, _ | 13, _ | 15, _ => fun _ => rfl
  | n + 16, h => absurd h (by omega)

theorem column5_cells : ∀ r < 16, MapCell (BitVec.ofNat 8 (16 * 5 + r))
  | 0, _ | 1, _ | 2, _ | 3, _ | 4, _ | 5, _ | 6, _ | 7, _ | 8, _ | 9, _ | 15, _ => reads_byte1 fun _ => ⟨rfl, rfl⟩
  | 10, _ | 11, _ => reads_byte3 fun _ _ _ => ⟨rfl, rfl⟩
  | 12, _ | 13, _ | 14, _ => reads_byte2 fun _ _ => ⟨rfl, rfl⟩
  | n + 16, h => absurd h (by omega)

theorem column6_cells : ∀ r < 16, MapCell (BitVec.ofNat 8 (16 * 6 + r))
  | 0, _ | 1, _ | 2, _ | 3, _ | 4, _ | 5, _ | 6, _ | 7, _ | 8, _ | 9, _ | 15, _ => reads_word1 fun _ => ⟨rfl, rfl⟩
  | 10, _ | 11, _ => reads_wordByte2 fun _ _ _ => ⟨rfl, rfl⟩
  | 12, _ | 13, _ | 14, _ => reads_wordByte fun _ _ => ⟨rfl, rfl⟩
  | n + 16, h => absurd h (by omega)

theorem column7_cells : ∀ r < 16, MapCell (BitVec.ofNat 8 (16 * 7 + r))
  | 0, _ | 1, _ | 2, _ | 3, _ | 4, _ | 5, _ | 6, _ | 7, _ | 8, _ | 9, _ | 10, _ | 13, _ | 14, _ | 15, _ =>
  reads_ixp rfl rfl
  | 11, _ | 12, _ => fun _ => rfl
  | n + 16, h => absurd h (by omega)

theorem column8_cells : ∀ r < 16, MapCell (BitVec.ofNat 8 (16 * 8 + r))
  | 0, _ | 1, _ | 2, _ | 3, _ | 4, _ | 5, _ | 6, _ | 7, _ | 8, _ | 9, _ | 11, _ => reads_byte1 fun _ => ⟨rfl, rfl⟩
  | 10, _ | 12, _ => fun _ => rfl
  | 13, _ | 14, _ | 15, _ => reads_word1 fun _ => ⟨rfl, rfl⟩
  | n + 16, h => absurd h (by omega)

theorem column9_cells : ∀ r < 16, MapCell (BitVec.ofNat 8 (16 * 9 + r)) := by
  intro r hr
  interval_cases r <;> exact reads_byte1 fun _ => ⟨rfl, rfl⟩

theorem columnA_cells : ∀ r < 16, MapCell (BitVec.ofNat 8 (16 * 10 + r)) := by
  intro r hr
  interval_cases r <;> exact reads_byte1 fun _ => ⟨rfl, rfl⟩

theorem columnB_cells : ∀ r < 16, MapCell (BitVec.ofNat 8 (16 * 11 + r)) := by
  intro r hr
  interval_cases r <;> exact reads_word1 fun _ => ⟨rfl, rfl⟩

theorem columnC_cells : ∀ r < 16, MapCell (BitVec.ofNat 8 (16 * 12 + r))
  | 0, _ | 1, _ | 2, _ | 3, _ | 4, _ | 5, _ | 6, _ | 7, _ | 8, _ | 9, _ | 11, _ => reads_byte1 fun _ => ⟨rfl, rfl⟩
  | 10, _ => fun _ => rfl
  | 12, _ | 13, _ | 14, _ | 15, _ => reads_word1 fun _ => ⟨rfl, rfl⟩
  | n + 16, h => absurd h (by omega)

theorem columnD_cells : ∀ r < 16, MapCell (BitVec.ofNat 8 (16 * 13 + r)) := by
  intro r hr
  interval_cases r <;> exact reads_byte1 fun _ => ⟨rfl, rfl⟩

theorem columnE_cells : ∀ r < 16, MapCell (BitVec.ofNat 8 (16 * 14 + r)) := by
  intro r hr
  interval_cases r <;> exact reads_byte1 fun _ => ⟨rfl, rfl⟩

theorem columnF_cells : ∀ r < 16, MapCell (BitVec.ofNat 8 (16 * 15 + r)) := by
  intro r hr
  interval_cases r <;> exact reads_word1 fun _ => ⟨rfl, rfl⟩

/-- Every cell of the map: `op` is in the column of its high nibble and the row of its low one. -/
theorem mapCell (op : Byte) : MapCell op := by
  have hlt : op.toNat < 256 := op.isLt
  have hsplit : BitVec.ofNat 8 (16 * (op.toNat / 16) + op.toNat % 16) = op := by
    rw [Nat.div_add_mod, BitVec.ofNat_toNat, BitVec.setWidth_eq]
  have hrow : op.toNat % 16 < 16 := Nat.mod_lt _ (by decide)
  have hcol : op.toNat / 16 < 16 := by omega
  rw [← hsplit]
  generalize op.toNat % 16 = r at hrow ⊢
  generalize op.toNat / 16 = c at hcol ⊢
  interval_cases c
  exacts [column0_cells r hrow, column1_cells r hrow, column2_cells r hrow, column3_cells r hrow, column4_cells r hrow,
    column5_cells r hrow, column6_cells r hrow, column7_cells r hrow, column8_cells r hrow, column9_cells r hrow,
    columnA_cells r hrow, columnB_cells r hrow, columnC_cells r hrow, columnD_cells r hrow, columnE_cells r hrow,
    columnF_cells r hrow]

theorem readsOperands_of_some {op : Byte} {n : Nat} (h : operandBytes op = some n) : ReadsOperands op n (decodeOp op) := by
  have hcell := mapCell op
  rwa [MapCell, h] at hcell

theorem decode_of_none {op : Byte} (h : operandBytes op = none) (bs : List Byte) : decode (op :: bs) = .illegal op := by
  have hcell := mapCell op
  rw [MapCell, h] at hcell
  exact hcell bs

/-- A cell that takes operand bytes refuses nothing. -/
theorem decode_ne_illegal {op x : Byte} {n : Nat} (h : operandBytes op = some n) (bs : List Byte) :
    decode (op :: bs) ≠ .illegal x := by
  intro hill
  rcases Nat.lt_or_ge bs.length n with hlt | hge
  · cases hill.symm.trans ((readsOperands_of_some h).short bs hlt)
  · obtain ⟨i, rest, hok⟩ := (readsOperands_of_some h).enough bs hge
    cases hill.symm.trans hok

/-- What decodes has an opcode byte, whose cell fixes the operand bytes read. -/
theorem decode_ok {bs rest : List Byte} {i : Instr} (h : decode bs = .ok i rest) :
    ∃ op ops n, bs = op :: ops ∧ operandBytes op = some n ∧ ReadsOperands op n (decodeOp op) ∧ decodeOp op ops = .ok i rest := by
  cases bs with
  | nil => cases h
  | cons op ops =>
    cases hn : operandBytes op with
    | none => cases h.symm.trans (decode_of_none hn ops)
    | some n => exact ⟨op, ops, n, rfl, hn, readsOperands_of_some hn, h⟩

/-! ## Decoding an encoding -/

/-- Two operand bytes that are a word's high and low byte decode to the word (R106, R108). -/
theorem decodeWord1_bytes (f : Word → Instr) (w : Word) (rest : List Byte) :
    decodeWord1 f (hiByte w :: loByte w :: rest) = .ok (f w) rest := by
  rw [decodeWord1, joinBytes_hi_lo]

theorem decodeWordByte_bytes (f : Word → Byte → Instr) (w : Word) (m : Byte) (rest : List Byte) :
    decodeWordByte f (hiByte w :: loByte w :: m :: rest) = .ok (f w m) rest := by
  rw [decodeWordByte, joinBytes_hi_lo]

theorem decodeWordByte2_bytes (f : Word → Byte → Byte → Instr) (w : Word) (m rel : Byte) (rest : List Byte) :
    decodeWordByte2 f (hiByte w :: loByte w :: m :: rel :: rest) = .ok (f w m rel) rest := by
  rw [decodeWordByte2, joinBytes_hi_lo]

/-- A well-formed IX+ instruction carries no offset byte (P_IXP_OFFSET false). -/
theorem eq_none_of_ixpWf {off : Option Byte} (h : ixpWf off = true) : off = none := by
  simpa [ixpWf] using h

/-- The encodings by their layouts: those made of bytes decode by computation, those with a word join its two bytes again, and
an IX+ form is the one without its offset byte. -/
theorem decode_encode_append : ∀ (i : Instr) (rest : List Byte), i.wf = true → decode (encode i ++ rest) = .ok i rest
  | .nop, _ | .stop, _ | .dabnz _, _ | .dbbnz _, _ | .brn _, _ | .bra _, _ | .bil _, _ | .bih _, _ | .idiv, _
  | .mul, _ | .clv, _ | .sev, _ | .clc, _ | .sec, _ | .cli, _ | .sei, _ | .bhcc _, _ | .bhcs _, _ | .bhi _, _
  | .bls _, _ | .bcc _, _ | .bcs _, _ | .bne _, _ | .beq _, _ | .bvc _, _ | .bvs _, _ | .bpl _, _ | .bmi _, _
  | .bge _, _ | .blt _, _ | .bgt _, _ | .ble _, _ | .tsx, _ | .txs, _ | .ins, _ | .des, _ | .inx, _ | .dex, _
  | .pulx, _ | .pshx, _ | .pula, _ | .pulb, _ | .psha, _ | .pshb, _ | .rts, _ | .rti, _ | .wait, _ | .swi, _
  | .nega, _ | .clra, _ | .inca, _ | .deca, _ | .lsra, _ | .rora, _ | .asra, _ | .lsla, _ | .rola, _ | .tsta, _
  | .tdx, _ | .tba, _ | .sba, _ | .aba, _ | .negb, _ | .clrb, _ | .incb, _ | .decb, _ | .lsrb, _ | .rorb, _
  | .asrb, _ | .lslb, _ | .rolb, _ | .tstb, _ | .tab, _ | .cba, _ | .negIx _, _ | .clrIx _, _ | .incIx _, _
  | .decIx _, _ | .lsrIx _, _ | .rorIx _, _ | .asrIx _, _ | .lslIx _, _ | .rolIx _, _ | .tstIx _, _
  | .brsetIx _ _ _, _ | .brclrIx _ _ _, _ | .bclrIx _ _, _ | .bsetIx _ _, _ | .movIx _ _, _ | .jmpIx _, _
  | .subaImm _, _ | .sbcaImm _, _ | .addaImm _, _ | .andaImm _, _ | .ldaaImm _, _ | .oraaImm _, _ | .eoraImm _, _
  | .adcaImm _, _ | .cmpaImm _, _ | .bitaImm _, _ | .ais _, _ | .subaDir _, _ | .sbcaDir _, _ | .addaDir _, _
  | .andaDir _, _ | .ldaaDir _, _ | .oraaDir _, _ | .eoraDir _, _ | .adcaDir _, _ | .cmpaDir _, _ | .bitaDir _, _
  | .staaDir _, _ | .stsDir _, _ | .stdDir _, _ | .ldsDir _, _ | .subdDir _, _ | .adddDir _, _ | .subaIx _, _
  | .sbcaIx _, _ | .addaIx _, _ | .andaIx _, _ | .ldaaIx _, _ | .oraaIx _, _ | .eoraIx _, _ | .adcaIx _, _
  | .cmpaIx _, _ | .bitaIx _, _ | .staaIx _, _ | .stsIx _, _ | .stdIx _, _ | .ldsIx _, _ | .subdIx _, _
  | .adddIx _, _ | .subbImm _, _ | .sbcbImm _, _ | .addbImm _, _ | .andbImm _, _ | .ldabImm _, _ | .orabImm _, _
  | .eorbImm _, _ | .adcbImm _, _ | .cmpbImm _, _ | .bsr _, _ | .aix _, _ | .subbDir _, _ | .sbcbDir _, _
  | .addbDir _, _ | .andbDir _, _ | .ldabDir _, _ | .orabDir _, _ | .eorbDir _, _ | .adcbDir _, _ | .cmpbDir _, _
  | .jsrDir _, _ | .stabDir _, _ | .stxDir _, _ | .cpxDir _, _ | .ldxDir _, _ | .cpdDir _, _ | .lddDir _, _
  | .subbIx _, _ | .sbcbIx _, _ | .addbIx _, _ | .andbIx _, _ | .ldabIx _, _ | .orabIx _, _ | .eorbIx _, _
  | .adcbIx _, _ | .cmpbIx _, _ | .jsrIx _, _ | .stabIx _, _ | .stxIx _, _ | .cpxIx _, _ | .ldxIx _, _
  | .cpdIx _, _ | .lddIx _, _ =>
    fun _ => rfl
  | .negExt w, rest | .clrExt w, rest | .incExt w, rest | .decExt w, rest | .lsrExt w, rest | .rorExt w, rest
  | .asrExt w, rest | .lslExt w, rest | .rolExt w, rest | .tstExt w, rest | .jmpExt w, rest | .ldsImm w, rest
  | .subdImm w, rest | .adddImm w, rest | .subaExt w, rest | .sbcaExt w, rest | .addaExt w, rest | .andaExt w, rest
  | .ldaaExt w, rest | .oraaExt w, rest | .eoraExt w, rest | .adcaExt w, rest | .cmpaExt w, rest | .bitaExt w, rest
  | .staaExt w, rest | .stsExt w, rest | .stdExt w, rest | .ldsExt w, rest | .subdExt w, rest | .adddExt w, rest
  | .cpxImm w, rest | .ldxImm w, rest | .cpdImm w, rest | .lddImm w, rest | .subbExt w, rest | .sbcbExt w, rest
  | .addbExt w, rest | .andbExt w, rest | .ldabExt w, rest | .orabExt w, rest | .eorbExt w, rest | .adcbExt w, rest
  | .cmpbExt w, rest | .jsrExt w, rest | .stabExt w, rest | .stxExt w, rest | .cpxExt w, rest | .ldxExt w, rest
  | .cpdExt w, rest | .lddExt w, rest =>
    fun _ => decodeWord1_bytes _ w rest
  | .bclrExt w m, rest | .bsetExt w m, rest | .movExt w m, rest =>
    fun _ => decodeWordByte_bytes _ w m rest
  | .brsetExt w m rel, rest | .brclrExt w m rel, rest =>
    fun _ => decodeWordByte2_bytes _ w m rel rest
  | .subaIxp off, rest | .sbcaIxp off, rest | .addaIxp off, rest | .andaIxp off, rest | .ldaaIxp off, rest
  | .oraaIxp off, rest | .eoraIxp off, rest | .adcaIxp off, rest | .cmpaIxp off, rest | .bitaIxp off, rest
  | .staaIxp off, rest | .subdIxp off, rest | .cpdIxp off, rest | .adddIxp off, rest =>
    fun h => by cases eq_none_of_ixpWf h; rfl

/-- The encoding of a well-formed instruction is its opcode byte and the operand bytes its cell takes. -/
theorem encode_length {i : Instr} (h : i.wf = true) :
    ∃ op n, (encode i).head? = some op ∧ operandBytes op = some n ∧ (encode i).length = n + 1 ∧ n ≤ 4 := by
  have hdec : decode (encode i) = .ok i [] := by simpa using decode_encode_append i [] h
  obtain ⟨op, ops, n, henc, hn, hreads, hops⟩ := decode_ok hdec
  obtain ⟨-, -, hlen⟩ := hreads.decoded ops [] i hops
  exact ⟨op, n, by rw [henc, List.head?_cons], hn, by rw [henc, List.length_cons, hlen, List.length_nil, Nat.add_zero],
    hreads.atMostFour⟩

/-- The eleven empty cells of the map (R120). -/
theorem operandBytes_eq_none_iff (op : Byte) :
    operandBytes op = none ↔ op ∈ [0x3B, 0x3D, 0x4A, 0x4B, 0x4D, 0x4F, 0x7B, 0x7C, 0x8A, 0x8C, (0xCA : Byte)] := by
  revert op
  decide

/-! ## The statements -/

/-- Settles O1: by the layout of each constructor's encoding. -/
theorem decodeEncodeAgree : Obligations.DecodeEncodeAgree := decode_encode_append

/-- Settles O2: what decodes is what its cell of the map reads. -/
theorem decodedBytesAreTheEncoding : Obligations.DecodedBytesAreTheEncoding := by
  intro bs i rest h
  obtain ⟨op, ops, n, rfl, -, hreads, hops⟩ := decode_ok h
  obtain ⟨hwf, henc, -⟩ := hreads.decoded ops rest i hops
  exact ⟨hwf, henc⟩

/-- Settles O3: a cell refuses exactly if it is empty, and the length of an encoding is one more than its cell's operand
bytes. -/
theorem opcodeByteFixesLengthOrIsEmpty : Obligations.OpcodeByteFixesLengthOrIsEmpty := by
  refine ⟨fun op bs => ?_, fun i j hi hj hhead => ?_⟩
  · rw [← operandBytes_eq_none_iff]
    refine ⟨fun ⟨x, hx⟩ => ?_, fun h => ⟨op, decode_of_none h bs⟩⟩
    exact Option.eq_none_iff_forall_ne_some.mpr fun n hn => decode_ne_illegal hn bs hx
  · obtain ⟨op, n, hop, hn, hlen, hmax⟩ := encode_length hi
    obtain ⟨op', n', hop', hn', hlen', -⟩ := encode_length hj
    have hsame : op = op' := by rw [hop, hop'] at hhead; exact Option.some.inj hhead
    have hnn : n = n' := by rw [hsame, hn'] at hn; exact (Option.some.inj hn).symm
    omega

/-- Settles O4: by evaluation of the decoder on the examples' words. -/
theorem exampleWordsDecode : Obligations.ExampleWordsDecode := by
  and_intros <;> rfl

end Sys2Proof
end

section
/-! SUPPORT. What reads, writes, pushes and pulls that complete change, and how those that do not complete stop
(20_memory.md R70, R73, R74; 10_state.md R35 to R41). -/

namespace Sys2Proof.Machine

open Sys2Proof.Safety

/-! ## Reads and pulls: SP and the count of draws alone -/

/-- A byte read that completes draws free values and changes nothing else. -/
theorem read8_next_drew {a : Word} {s t : State} {v : Byte} (h : read8 a s = .next (v, t)) : ∃ n, t = s.drew n := by
  rcases read8_next h with rfl | rfl
  · exact ⟨0, rfl⟩
  · exact ⟨1, rfl⟩

theorem read16_next_drew {a w : Word} {s t : State} (h : read16 a s = .next (w, t)) : ∃ n, t = s.drew n := by
  obtain ⟨hi, lo, u, hhi, hlo, -⟩ := read16_next h
  obtain ⟨m, rfl⟩ := read8_next_drew hhi
  obtain ⟨n, rfl⟩ := read8_next_drew hlo
  exact ⟨m + n, by simp only [State.drew, Nat.add_assoc]⟩

theorem pull8_next_drew {s t : State} {v : Byte} (h : pull8 s = .next (v, t)) : ∃ n, t = (s.setSp (s.sp + 1)).drew n :=
  read8_next_drew h

/-- An update of the state that a byte read neither sees nor undoes. -/
structure OffRead (g : State → State) : Prop where
  mem_eq (s : State) : (g s).mem = s.mem
  dev_eq (s : State) : (g s).dev = s.dev
  draws_eq (s : State) : (g s).draws = s.draws
  drew_comm (s : State) (n : Nat) : (g s).drew n = g (s.drew n)

theorem offRead_setSp (w : Word) : OffRead (·.setSp w) := ⟨fun _ => rfl, fun _ => rfl, fun _ => rfl, fun _ _ => rfl⟩

theorem OffRead.readMm {g : State → State} (hg : OffRead g) (r : MmReg) (s : State) :
    readMm r (g s) = ((readMm r s).1, g (readMm r s).2) := by
  cases r <;> simp [Machine.readMm, hg.dev_eq, hg.draws_eq, hg.drew_comm]

theorem OffRead.read8 {g : State → State} (hg : OffRead g) (a : Word) (s : State) :
    read8 a (g s) = andThen (read8 a s) fun p => .next (p.1, g p.2) := by
  unfold Machine.read8
  by_cases hr : params.isRam a = true
  · simp [hr, State.ram, hg.mem_eq]
  · cases hm : mmReg a with
    | none => simp [hr]
    | some r => simp [hr, hg.readMm]

/-- A word pull is two byte reads above SP, which goes up by 2 (R12). -/
theorem pull16_eq_read8 (s : State) :
    pull16 s = andThen (read8 (s.sp + 1) s) fun h => andThen (read8 (s.sp + 2) h.2) fun l =>
      .next (joinBytes h.1 l.1, l.2.setSp (s.sp + 2)) := by
  have h2 : s.sp + 1 + 1 = s.sp + 2 := by bv_omega
  simp only [pull16, pull8, (offRead_setSp _).read8, andThen_assoc, andThen_next, State.sp_setSp, h2]
  rfl

/-- A word pull is a word read above SP, which goes up by 2 (R12). -/
theorem pull16_eq (s : State) :
    pull16 s = andThen (read16 (s.sp + 1) s) fun p => .next (p.1, p.2.setSp (s.sp + 2)) := by
  have h2 : s.sp + 1 + 1 = s.sp + 2 := by bv_omega
  simp only [pull16_eq_read8, read16, andThen_assoc, andThen_next, h2]

theorem pull16_next_drew {s t : State} {w : Word} (h : pull16 s = .next (w, t)) :
    ∃ n, t = (s.setSp (s.sp + 2)).drew n := by
  rw [pull16_eq] at h
  obtain ⟨⟨x, u⟩, hread, hnext⟩ := andThen_eq_next.mp h
  obtain ⟨n, rfl⟩ := read16_next_drew hread
  cases hnext
  exact ⟨n, rfl⟩

/-! ## The registers at their addresses -/

/-- An address is that of one register at most (R35). -/
theorem eq_mmAddr_of_mmReg {a : Word} {r : MmReg} (h : mmReg a = some r) : a = mmAddr r := by
  unfold mmReg at h
  split at h <;> cases h <;> exact BitVec.eq_of_toNat_eq ‹_›

theorem not_inRam_mmAddr (r : MmReg) : ¬ InRam (mmAddr r) := by cases r <;> decide

theorem readable_mmAddr (r : MmReg) : Readable (mmAddr r) := by cases r <;> decide

/-- A write to a register changes what it holds, or a count it zeroes, and nothing else that a register holds (R37, R38). -/
theorem held_write {d e : Devices} {q r : MmReg} {v : Byte} (h : d.write q v = some e) (hq : q ∉ changedBy r) :
    held e r = held d r := by
  cases q <;> cases h <;> cases r <;> simp [changedBy, held, Devices.writeIrqctl, Devices.writeTmrctl] at hq ⊢

/-- The four pending flags (R350). -/
def Devices.pending (d : Devices) : List Bool := [d.pendExt1, d.pendExt2, d.pendT1, d.pendT2]

theorem pending_write {d e : Devices} {q : MmReg} {v : Byte} (h : d.write q v = some e) (hq : q ≠ .irqctl) :
    e.pending = d.pending := by
  cases q <;> cases h <;> simp [Devices.pending, Devices.writeTmrctl] at hq ⊢

theorem outputs_write {d e : Devices} {q : MmReg} {v : Byte} (h : d.write q v = some e) (h1 : q ≠ .out1) (h2 : q ≠ .out2) :
    e.outputs = d.outputs := by
  cases q <;> cases h <;> simp [Devices.writeIrqctl, Devices.writeTmrctl] at h1 h2 ⊢

/-! ## Several byte writes -/

/-- A property of pairs of states that every byte write of the list has, and that composes, holds across all of them. -/
theorem storeCells_induction {P : State → State → Prop} (hrefl : ∀ s, P s s) (htrans : ∀ s u t, P s u → P u t → P s t)
    {cells : List (Word × Byte)} {s t : State} (h : storeCells cells s = .next t)
    (hstep : ∀ c ∈ cells, ∀ u v, write8 c.1 c.2 u = .next v → P u v) : P s t := by
  induction cells generalizing s with
  | nil => cases h; exact hrefl _
  | cons c rest ih =>
    obtain ⟨u, hu, hrest⟩ := andThen_eq_next.mp h
    obtain ⟨hc, hcs⟩ := List.forall_mem_cons.mp hstep
    exact htrans _ _ _ (hc _ _ hu) (ih hrest hcs)

/-- Writes to RAM leave the devices alone. -/
theorem storeCells_dev_of_inRam {cells : List (Word × Byte)} {s t : State} (h : storeCells cells s = .next t)
    (hram : ∀ a ∈ cells.map Prod.fst, InRam a) : t.dev = s.dev := by
  refine storeCells_induction (P := fun s t => t.dev = s.dev) (fun _ => rfl) (fun _ _ _ h1 h2 => h2.trans h1) h ?_
  intro c hc u v huv
  rw [write8_ram _ _ (isRam_of_inRam (hram _ (List.mem_map_of_mem hc)))] at huv
  cases huv
  rfl

/-- What writes to no register of a list leave of the devices. -/
theorem storeCells_dev {α : Type} {view : Devices → α} {regs : List MmReg}
    (hview : ∀ (d e : Devices) (q : MmReg) (v : Byte), d.write q v = some e → q ∉ regs → view e = view d)
    {cells : List (Word × Byte)} {s t : State} (h : storeCells cells s = .next t)
    (hnot : ∀ q ∈ regs, mmAddr q ∉ cells.map Prod.fst) : view t.dev = view s.dev := by
  refine storeCells_induction (P := fun s t => view t.dev = view s.dev) (fun _ => rfl) (fun _ _ _ h1 h2 => h2.trans h1) h ?_
  intro c hc u v huv
  rcases write8_next huv with ⟨-, rfl⟩ | ⟨-, q, e, hq, he, rfl⟩
  · rfl
  · refine hview _ _ q _ he fun hmem => hnot q hmem ?_
    rw [← eq_mmAddr_of_mmReg hq]
    exact List.mem_map_of_mem hc

/-- The RAM addresses among those written to are noted, after those noted before (R84; log 10). -/
theorem mem_stores_storeCells {cells : List (Word × Byte)} {s t : State} (h : storeCells cells s = .next t) (a : Word) :
    a ∈ t.stores ↔ (a ∈ cells.map Prod.fst ∧ InRam a) ∨ a ∈ s.stores := by
  induction cells generalizing s with
  | nil => cases h; simp
  | cons c rest ih =>
    obtain ⟨u, hu, hrest⟩ := andThen_eq_next.mp h
    rw [ih hrest, List.map_cons, List.mem_cons]
    rcases write8_next hu with ⟨hram, rfl⟩ | ⟨hram, _, _, -, -, rfl⟩
    · have hc : InRam c.1 := (isRam_iff _).mp hram
      rw [State.stores_storeRam, List.mem_cons]
      by_cases hac : a = c.1
      · subst hac; simp [hc]
      · simp [hac]
    · have hc : ¬ InRam c.1 := not_lt.mpr ((not_isRam_iff _).mp hram)
      rw [State.stores_setDev]
      by_cases hac : a = c.1
      · subst hac; simp [hc]
      · simp [hac]

/-! ## How accesses stop -/

/-- The faults of a data access: an address no register and no RAM byte has (R74). -/
def AccessFault (r : Fault) : Prop := ∃ a, r = .invalidAccess a ∧ ¬ Readable a

/-- The refusals of a data access: a write to an input register (log 13), a test of any register (log 14). -/
def AccessRefusal (r : Refusal) : Prop :=
  (∃ a, r = .inputRegisterWrite a ∧ Readable a ∧ ¬ Writable a) ∨ (∃ a, r = .testOfDevice a ∧ ¬ InRam a ∧ Readable a)

/-- An operation that, where it does not complete, stops as a data access does. -/
def StopsAsAccess {α : Type} : Res α → Prop
  | .next _ => True
  | .fault r => AccessFault r
  | .refused r => AccessRefusal r

theorem StopsAsAccess.andThen {α β : Type} {x : Res α} {f : α → Res β} (hx : StopsAsAccess x)
    (hf : ∀ a, x = .next a → StopsAsAccess (f a)) : StopsAsAccess (andThen x f) := by
  cases x with
  | next a => exact hf a rfl
  | fault r => exact hx
  | refused r => exact hx

theorem stopsAsAccess_read8 (a : Word) (s : State) : StopsAsAccess (read8 a s) := by
  by_cases h : Readable a
  · rw [read8_of_readable s h]; trivial
  · rw [read8_of_not_readable s h]; exact ⟨a, rfl, h⟩

theorem stopsAsAccess_write8 (a : Word) (v : Byte) (s : State) : StopsAsAccess (write8 a v s) := by
  by_cases hr : Readable a
  · by_cases hw : Writable a
    · rw [write8_of_writable v s hw]; trivial
    · rw [write8_of_input v s hr hw]; exact .inl ⟨a, rfl, hr, hw⟩
  · rw [write8_of_not_readable v s hr]; exact ⟨a, rfl, hr⟩

theorem stopsAsAccess_read16 (a : Word) (s : State) : StopsAsAccess (read16 a s) :=
  (stopsAsAccess_read8 _ _).andThen fun _ _ => (stopsAsAccess_read8 _ _).andThen fun _ _ => trivial

theorem stopsAsAccess_pull16 (s : State) : StopsAsAccess (pull16 s) :=
  (stopsAsAccess_read8 _ _).andThen fun _ _ => (stopsAsAccess_read8 _ _).andThen fun _ _ => trivial

theorem stopsAsAccess_storeCells (cells : List (Word × Byte)) (s : State) : StopsAsAccess (storeCells cells s) := by
  induction cells generalizing s with
  | nil => trivial
  | cons c rest ih => exact (stopsAsAccess_write8 _ _ _).andThen fun t _ => ih t

end Sys2Proof.Machine
end

section
/-! O59 and O60. What each instruction does, in one form: it writes bytes to the addresses it stores to, and then changes
registers and flags its rule names, or it stops as a data access does (10_state.md R30 to R32). -/

namespace Sys2Proof.Machine

open Sys2Proof.Safety

/-! ## Footprints -/

/-- What an instruction changes beside registers, flags, memory and devices. -/
inductive Mark where
  /-- Whether the machine runs (STOP, WAIT). -/
  | run
  /-- Whether recognition may come late (CLI, RTI). -/
  | irqLag
  deriving DecidableEq

def marksWritten : Instr → List Mark
  | .stop | .wait => [.run]
  | .cli | .rti => [.irqLag]
  | _ => []

/-- All that an instruction may change. -/
structure Footprint where
  flags : List Flag
  regs : List Reg
  marks : List Mark
  addrs : List Word

def footprint (s : State) (i : Instr) : Footprint := ⟨flagsWritten i, regsWritten i, marksWritten i, storeAddrs s i⟩

/-- The flags `c` with those of a footprint taken from `d`. -/
def Footprint.ccr (p : Footprint) (c d : Ccr) : Ccr where
  h := if .h ∈ p.flags then d.h else c.h
  i := if .i ∈ p.flags then d.i else c.i
  n := if .n ∈ p.flags then d.n else c.n
  z := if .z ∈ p.flags then d.z else c.z
  v := if .v ∈ p.flags then d.v else c.v
  c := if .c ∈ p.flags then d.c else c.c

/-- The state `s` with the flags, registers and marks of a footprint taken from `t`, and the count of draws. -/
def Footprint.state (p : Footprint) (s t : State) : State :=
  { s with
    a := if .a ∈ p.regs then t.a else s.a
    b := if .b ∈ p.regs then t.b else s.b
    ix := if .ix ∈ p.regs then t.ix else s.ix
    sp := if .sp ∈ p.regs then t.sp else s.sp
    pc := if .pc ∈ p.regs then t.pc else s.pc
    hidden := if .hidden ∈ p.regs then t.hidden else s.hidden
    ccr := p.ccr s.ccr t.ccr
    run := if .run ∈ p.marks then t.run else s.run
    irqLag := if .irqLag ∈ p.marks then t.irqLag else s.irqLag
    draws := t.draws }

/-- A state spelled out, so that an equation with it is compared field by field. -/
def State.spelled (t : State) : State :=
  ⟨t.a, t.b, t.ix, t.sp, t.pc, ⟨t.ccr.h, t.ccr.i, t.ccr.n, t.ccr.z, t.ccr.v, t.ccr.c⟩, t.mem, t.dev, t.run, t.opcode,
    t.ccrOpcode, t.hidden, t.stores, t.irqLag, t.env, t.draws⟩

theorem State.spelled_eq (t : State) : t.spelled = t := rfl

/-- `t` differs from `s` within the footprint's registers, flags and marks alone. -/
def Footprint.Within (p : Footprint) (s t : State) : Prop := t.spelled = p.state s t

/-- From `s` to `t`, bytes were written to exactly the footprint's addresses, in their order, and then only the footprint's
registers, flags and marks changed. -/
def Footprint.Does (p : Footprint) (s t : State) : Prop :=
  ∃ cells u, cells.map Prod.fst = p.addrs ∧ storeCells cells s = .next u ∧ p.Within u t

/-- A result that stays within a footprint, or stops as a data access does. -/
def Footprint.Allows (p : Footprint) (s : State) (x : Res State) : Prop :=
  (∀ t, x = .next t → p.Does s t) ∧ StopsAsAccess x

/-! ## The shared operations within a footprint -/

section
variable {p : Footprint} {s : State}

theorem Footprint.Within.does {t : State} (h : p.Within s t) (hp : p.addrs = []) : p.Does s t :=
  ⟨[], s, hp.symm, rfl, h⟩

/-- How many values are drawn is in no footprint. -/
theorem Footprint.Within.drew {t : State} (h : p.Within s t) (n : Nat) : p.Within s (t.drew n) :=
  congrArg (State.drew · n) h

theorem allows_next {t : State} (h : p.Within s t) (hp : p.addrs = []) : p.Allows s (.next t) :=
  ⟨by rintro _ ⟨⟩; exact h.does hp, trivial⟩

/-- A branch stays within the footprint whether it is taken or not. -/
theorem within_branchIf {t : State} {rel : Byte} (cond : Bool) (h1 : p.Within s (branchIf true rel t))
    (h0 : p.Within s (branchIf false rel t)) : p.Within s (branchIf cond rel t) := by
  cases cond
  · exact h0
  · exact h1

theorem allows_load8 {ea : Word} {f : Byte → State → State} (hf : ∀ v u, p.Within u (f v u)) (hp : p.addrs = []) :
    p.Allows s (load8 ea f s) := by
  refine ⟨fun t ht => ?_, (stopsAsAccess_read8 _ _).andThen fun _ _ => trivial⟩
  obtain ⟨v, u, hu, rfl⟩ := load8_next ht
  obtain ⟨n, rfl⟩ := read8_next_drew hu
  exact Footprint.Within.does (hf v (s.drew n)) hp

theorem allows_load16 {ea : Word} {f : Word → State → State} (hf : ∀ w u, p.Within u (f w u)) (hp : p.addrs = []) :
    p.Allows s (load16 ea f s) := by
  refine ⟨fun t ht => ?_, (stopsAsAccess_read16 _ _).andThen fun _ _ => trivial⟩
  obtain ⟨w, u, hu, rfl⟩ := load16_next ht
  obtain ⟨n, rfl⟩ := read16_next_drew hu
  exact Footprint.Within.does (hf w (s.drew n)) hp

theorem allows_postInc_load8 {n : Nat} {ea : Word} {f : Byte → State → State}
    (hf : ∀ v u, p.Within u (advanceIx (params.ixpStep n) (f v u))) (hp : p.addrs = []) :
    p.Allows s (postInc n (load8 ea f s)) := by
  rw [postInc_load8]
  exact allows_load8 hf hp

theorem allows_postInc_load16 {n : Nat} {ea : Word} {f : Word → State → State}
    (hf : ∀ w u, p.Within u (advanceIx (params.ixpStep n) (f w u))) (hp : p.addrs = []) :
    p.Allows s (postInc n (load16 ea f s)) := by
  rw [postInc_load16]
  exact allows_load16 hf hp

/-- Byte writes, and then a change of registers and flags. -/
theorem allows_storeCells {cells : List (Word × Byte)} {g : State → State} (hp : cells.map Prod.fst = p.addrs)
    (hg : ∀ u, p.Within u (g u)) : p.Allows s (andThen (storeCells cells s) fun u => .next (g u)) := by
  refine ⟨fun t ht => ?_, (stopsAsAccess_storeCells _ _).andThen fun _ _ => trivial⟩
  obtain ⟨u, hu, hnext⟩ := andThen_eq_next.mp ht
  cases hnext
  exact ⟨cells, u, hp, hu, hg u⟩

theorem andThen_pure {α : Type} (x : Res α) : andThen x .next = x := by cases x <;> rfl

theorem storeCells_singleton (a : Word) (v : Byte) : storeCells [(a, v)] s = write8 a v s := andThen_pure _

theorem allows_write8 {a : Word} {v : Byte} {g : State → State} (hp : [a] = p.addrs) (hg : ∀ u, p.Within u (g u)) :
    p.Allows s (andThen (write8 a v s) fun u => .next (g u)) := by
  rw [← storeCells_singleton]
  exact allows_storeCells hp hg

theorem write16_eq (a w : Word) : write16 a w s = storeCells (wordCells a w) s := by
  rw [wordCells, storeCells_cons]
  exact andThen_congr fun u _ => (storeCells_singleton _ _).symm

theorem allows_storeReg16 {r : Reg16} {ea : Word} (hp : [ea, ea + 1] = p.addrs)
    (hg : ∀ u, p.Within u (u.setCcr (u.ccr.logic (s.reg16 r)))) : p.Allows s (storeReg16 r ea s) := by
  rw [storeReg16, write16_eq]
  exact allows_storeCells hp hg

theorem allows_push8 {v : Byte} (hp : [s.sp] = p.addrs) (hg : ∀ u, p.Within u (u.setSp (s.sp - 1))) :
    p.Allows s (push8 v s) := by
  rw [push8_eq]
  exact allows_write8 hp hg

theorem allows_push16 {w : Word} (hp : [s.sp, s.sp - 1] = p.addrs) (hg : ∀ u, p.Within u (u.setSp (s.sp - 2))) :
    p.Allows s (push16 w s) := by
  rw [push16_eq]
  exact allows_storeCells hp hg

theorem callAt_eq (target : Word) : callAt target s =
    andThen (storeCells (pushCells s.pc s) s) fun u => .next ((u.setSp (s.sp - 2)).setPc target) := by
  rw [callAt, push16_eq, andThen_assoc]
  rfl

theorem allows_callAt {target : Word} (hp : [s.sp, s.sp - 1] = p.addrs)
    (hg : ∀ u, p.Within u ((u.setSp (s.sp - 2)).setPc target)) : p.Allows s (callAt target s) := by
  rw [callAt_eq]
  exact allows_storeCells hp hg

theorem allows_pull8 {f : Byte → State → State} (hf : ∀ v u, p.Within u (f v (u.setSp (u.sp + 1)))) (hp : p.addrs = []) :
    p.Allows s (andThen (pull8 s) fun q => .next (f q.1 q.2)) := by
  refine ⟨fun t ht => ?_, (stopsAsAccess_read8 _ _).andThen fun _ _ => trivial⟩
  obtain ⟨⟨v, u⟩, hu, hnext⟩ := andThen_eq_next.mp ht
  obtain ⟨n, rfl⟩ := pull8_next_drew hu
  cases hnext
  exact Footprint.Within.does (hf v (s.drew n)) hp

theorem allows_pull16 {f : Word → State → State} (hf : ∀ w u, p.Within u (f w (u.setSp (u.sp + 2)))) (hp : p.addrs = []) :
    p.Allows s (andThen (pull16 s) fun q => .next (f q.1 q.2)) := by
  refine ⟨fun t ht => ?_, (stopsAsAccess_pull16 _).andThen fun _ _ => trivial⟩
  obtain ⟨⟨w, u⟩, hu, hnext⟩ := andThen_eq_next.mp ht
  obtain ⟨n, rfl⟩ := pull16_next_drew hu
  cases hnext
  exact Footprint.Within.does (hf w (s.drew n)) hp

/-- A byte changed in memory: the byte is written back on the state the read left, but for the count of draws. -/
theorem allows_rmw8 {ea : Word} {f : UnaryOp} (hf : ∀ m c, (f m c).2 = p.ccr c (f m c).2) (hp : [ea] = p.addrs)
    (hregs : p.regs = []) (hmarks : p.marks = []) : p.Allows s (rmw8 ea f s) := by
  refine ⟨fun t ht => ?_, (stopsAsAccess_read8 _ _).andThen fun _ _ => (stopsAsAccess_write8 _ _ _).andThen fun _ _ => trivial⟩
  obtain ⟨m, u, w, hu, hw, rfl⟩ := rmw8_next ht
  obtain ⟨n, rfl⟩ := read8_next_drew hu
  rw [(offBus_drew n).write8] at hw
  obtain ⟨x, hx, hnext⟩ := andThen_eq_next.mp hw
  cases hnext
  refine ⟨[(ea, (f m s.ccr).1)], x, hp, (storeCells_singleton _ _).trans hx, ?_⟩
  have hccr : x.ccr = s.ccr := by rw [write8_next_frame hx]
  have hflags : (f m s.ccr).2 = p.ccr x.ccr (f m s.ccr).2 := by rw [hccr]; exact hf m s.ccr
  simp only [Footprint.Within, Footprint.state, hregs, hmarks, List.not_mem_nil, if_false, State.ccr_setCcr, State.ccr_drew]
  rw [← hflags]
  rfl

theorem ccr_logic_eq {w : Nat} (hp : p.flags = [.v, .n, .z]) (r : BitVec w) (c : Ccr) : c.logic r = p.ccr c (c.logic r) := by
  obtain ⟨flags, regs, marks, addrs⟩ := p
  cases hp
  rfl

theorem allows_clearBits {ea : Word} {m : Byte} (hp : [ea] = p.addrs) (hflags : p.flags = [.v, .n, .z])
    (hregs : p.regs = []) (hmarks : p.marks = []) : p.Allows s (clearBits ea m s) :=
  allows_rmw8 (fun _ c => ccr_logic_eq hflags _ c) hp hregs hmarks

theorem allows_setBits {ea : Word} {m : Byte} (hp : [ea] = p.addrs) (hflags : p.flags = [.v, .n, .z])
    (hregs : p.regs = []) (hmarks : p.marks = []) : p.Allows s (setBits ea m s) :=
  allows_rmw8 (fun _ c => ccr_logic_eq hflags _ c) hp hregs hmarks

/-- A bit test changes Z and C, and PC where it branches (R267, R268). -/
theorem within_bitTest {u : State} {x m tested rel : Byte} (cond : Bool) (hflags : p.flags = [.z, .c]) (hregs : p.regs = [.pc])
    (hmarks : p.marks = []) : p.Within u (branchIf cond rel (u.setCcr (u.ccr.bitTest x m tested))) := by
  obtain ⟨flags, regs, marks, addrs⟩ := p
  cases hflags
  cases hregs
  cases hmarks
  exact within_branchIf cond rfl rfl

theorem allows_branchSet {ea : Word} {m rel : Byte} (hp : p.addrs = []) (hflags : p.flags = [.z, .c]) (hregs : p.regs = [.pc])
    (hmarks : p.marks = []) : p.Allows s (branchSet ea m rel s) :=
  allows_load8 (fun _ _ => within_bitTest _ hflags hregs hmarks) hp

theorem allows_branchClear {ea : Word} {m rel : Byte} (hp : p.addrs = []) (hflags : p.flags = [.z, .c]) (hregs : p.regs = [.pc])
    (hmarks : p.marks = []) : p.Allows s (branchClear ea m rel s) :=
  allows_load8 (fun _ _ => within_bitTest _ hflags hregs hmarks) hp

theorem allows_testByte {ea : Word} (hf : ∀ v u, p.Within u (testFlags v u)) (hp : p.addrs = []) :
    p.Allows s (testByte ea s) := by
  unfold testByte
  cases hr : mmReg ea with
  | none => exact allows_load8 hf hp
  | some r =>
    have hea := eq_mmAddr_of_mmReg hr
    have hdev : AccessRefusal (.testOfDevice ea) := .inr ⟨ea, rfl, hea ▸ not_inRam_mmAddr r, hea ▸ readable_mmAddr r⟩
    exact ⟨fun _ => nofun, hdev⟩

/-- An entry: the six bytes of the frame, then SP, I and PC (R345). -/
theorem allows_trapEntry {vector : Word} (hp : frameAddrs s = p.addrs)
    (hg : ∀ u handler, u.ccr = s.ccr → p.Within u (entered s u handler)) : p.Allows s (trapEntry vector s) := by
  rw [trapEntry_eq]
  refine ⟨fun t ht => ?_, (stopsAsAccess_storeCells _ _).andThen fun _ _ => (stopsAsAccess_read16 _ _).andThen fun _ _ => trivial⟩
  obtain ⟨u, hu, hread⟩ := andThen_eq_next.mp ht
  obtain ⟨⟨handler, x⟩, hx, hnext⟩ := andThen_eq_next.mp hread
  obtain ⟨n, rfl⟩ := read16_next_drew hx
  cases hnext
  exact ⟨_, u, (map_fst_entryCells _ s).trans hp, hu, (hg u handler (by rw [storeCells_next_frame hu])).drew n⟩

/-- RTI pulls three words, and changes no more than its rule names (R204). -/
theorem allows_trapReturn : (footprint s .rti).Allows s (trapReturn s) := by
  refine ⟨fun t ht => ?_, (stopsAsAccess_pull16 _).andThen fun _ _ => (stopsAsAccess_pull16 _).andThen fun _ _ =>
    (stopsAsAccess_pull16 _).andThen fun _ _ => trivial⟩
  obtain ⟨w1, u1, w2, u2, w3, u3, h1, h2, h3, rfl⟩ := trapReturn_next ht
  obtain ⟨n1, rfl⟩ := pull16_next_drew h1
  obtain ⟨n2, rfl⟩ := pull16_next_drew h2
  obtain ⟨n3, rfl⟩ := pull16_next_drew h3
  exact Footprint.Within.does rfl rfl

end

/-! ## Every instruction within its footprint -/

/-- Every instruction, by the shared operation it is. -/
theorem exec_allows : ∀ (i : Instr) (s : State), (footprint s i).Allows s (exec i s)
  -- no data access
  | .tsx, _ | .inx, _ | .dex, _ | .aix _, _ =>
    allows_next (p := ⟨[], [.ix], [], []⟩) rfl rfl
  | .txs, _ | .ins, _ | .des, _ | .ais _, _ =>
    allows_next (p := ⟨[], [.sp], [], []⟩) rfl rfl
  | .nega, _ | .lsra, _ | .rora, _ | .asra, _ | .lsla, _ | .rola, _ | .sba, _ | .aba, _ | .subaImm _, _
  | .sbcaImm _, _ | .addaImm _, _ | .adcaImm _, _ =>
    allows_next (p := ⟨[.v, .n, .z, .c], [.a], [], []⟩) rfl rfl
  | .clra, _ | .inca, _ | .deca, _ | .tba, _ | .andaImm _, _ | .ldaaImm _, _ | .oraaImm _, _ | .eoraImm _, _ =>
    allows_next (p := ⟨[.v, .n, .z], [.a], [], []⟩) rfl rfl
  | .tsta, _ | .tstb, _ | .bitaImm _, _ =>
    allows_next (p := ⟨[.v, .n, .z], [], [], []⟩) rfl rfl
  | .negb, _ | .lsrb, _ | .rorb, _ | .asrb, _ | .lslb, _ | .rolb, _ | .subbImm _, _ | .sbcbImm _, _ | .addbImm _, _
  | .adcbImm _, _ =>
    allows_next (p := ⟨[.v, .n, .z, .c], [.b], [], []⟩) rfl rfl
  | .clrb, _ | .incb, _ | .decb, _ | .tab, _ | .andbImm _, _ | .ldabImm _, _ | .orabImm _, _ | .eorbImm _, _ =>
    allows_next (p := ⟨[.v, .n, .z], [.b], [], []⟩) rfl rfl
  | .cba, _ | .cmpaImm _, _ | .cmpbImm _, _ =>
    allows_next (p := ⟨[.v, .n, .z, .c], [], [], []⟩) rfl rfl
  | .stop, _ | .wait, _ | .nop, _ | .mul, _ | .clv, _ | .sev, _ | .clc, _ | .sec, _ | .cli, _ | .sei, _ | .tdx, _
  | .ldxImm _, _ | .jmpIx _, _ | .jmpExt _, _ | .ldsImm _, _ | .subdImm _, _ | .adddImm _, _ | .cpxImm _, _
  | .cpdImm _, _ | .lddImm _, _ =>
    allows_next rfl rfl
  | .bil _, _ | .bih _, _ | .bhcc _, _ | .bhcs _, _ | .bhi _, _ | .bls _, _ | .bcc _, _ | .bcs _, _ | .bne _, _
  | .beq _, _ | .bvc _, _ | .bvs _, _ | .bpl _, _ | .bmi _, _ | .bge _, _ | .blt _, _ | .bgt _, _ | .ble _, _
  | .brn _, _ | .bra _, _ =>
    allows_next (p := ⟨[], [.pc], [], []⟩) (within_branchIf _ rfl rfl) rfl
  | .dabnz _, _ | .dbbnz _, _ =>
    allows_next (within_branchIf _ rfl rfl) rfl
  | .idiv, s => by
    refine allows_next ?_ rfl
    unfold divide
    split <;> rfl
  -- a byte read
  | .subaDir _, _ | .sbcaDir _, _ | .addaDir _, _ | .adcaDir _, _ | .subaIx _, _ | .sbcaIx _, _ | .addaIx _, _
  | .adcaIx _, _ | .subaExt _, _ | .sbcaExt _, _ | .addaExt _, _ | .adcaExt _, _ =>
    allows_load8 (p := ⟨[.v, .n, .z, .c], [.a], [], []⟩) (fun _ _ => rfl) rfl
  | .andaDir _, _ | .ldaaDir _, _ | .oraaDir _, _ | .eoraDir _, _ | .andaIx _, _ | .ldaaIx _, _ | .oraaIx _, _
  | .eoraIx _, _ | .andaExt _, _ | .ldaaExt _, _ | .oraaExt _, _ | .eoraExt _, _ =>
    allows_load8 (p := ⟨[.v, .n, .z], [.a], [], []⟩) (fun _ _ => rfl) rfl
  | .cmpaDir _, _ | .cmpaIx _, _ | .cmpaExt _, _ | .cmpbDir _, _ | .cmpbIx _, _ | .cmpbExt _, _ =>
    allows_load8 (p := ⟨[.v, .n, .z, .c], [], [], []⟩) (fun _ _ => rfl) rfl
  | .bitaDir _, _ | .bitaIx _, _ | .bitaExt _, _ =>
    allows_load8 (p := ⟨[.v, .n, .z], [], [], []⟩) (fun _ _ => rfl) rfl
  | .subbDir _, _ | .sbcbDir _, _ | .addbDir _, _ | .adcbDir _, _ | .subbIx _, _ | .sbcbIx _, _ | .addbIx _, _
  | .adcbIx _, _ | .subbExt _, _ | .sbcbExt _, _ | .addbExt _, _ | .adcbExt _, _ =>
    allows_load8 (p := ⟨[.v, .n, .z, .c], [.b], [], []⟩) (fun _ _ => rfl) rfl
  | .andbDir _, _ | .ldabDir _, _ | .orabDir _, _ | .eorbDir _, _ | .andbIx _, _ | .ldabIx _, _ | .orabIx _, _
  | .eorbIx _, _ | .andbExt _, _ | .ldabExt _, _ | .orabExt _, _ | .eorbExt _, _ =>
    allows_load8 (p := ⟨[.v, .n, .z], [.b], [], []⟩) (fun _ _ => rfl) rfl
  | .subaIxp _, _ | .sbcaIxp _, _ | .addaIxp _, _ | .adcaIxp _, _ =>
    allows_postInc_load8 (p := ⟨[.v, .n, .z, .c], [.a, .ix], [], []⟩) (fun _ _ => rfl) rfl
  | .andaIxp _, _ | .ldaaIxp _, _ | .oraaIxp _, _ | .eoraIxp _, _ =>
    allows_postInc_load8 (p := ⟨[.v, .n, .z], [.a, .ix], [], []⟩) (fun _ _ => rfl) rfl
  | .cmpaIxp _, _ | .bitaIxp _, _ =>
    allows_postInc_load8 (fun _ _ => rfl) rfl
  | .brsetIx _ _ _, _ | .brsetExt _ _ _, _ => allows_branchSet rfl rfl rfl rfl
  | .brclrIx _ _ _, _ | .brclrExt _ _ _, _ => allows_branchClear rfl rfl rfl rfl
  | .tstIx _, _ | .tstExt _, _ => allows_testByte (fun _ _ => rfl) rfl
  | .pula, _ => allows_pull8 (f := fun v t => t.setA v) (fun _ _ => rfl) rfl
  | .pulb, _ => allows_pull8 (f := fun v t => t.setB v) (fun _ _ => rfl) rfl
  -- a word read
  | .ldsDir _, _ | .ldsIx _, _ | .ldsExt _, _ =>
    allows_load16 (p := ⟨[.v, .n, .z], [.sp], [], []⟩) (fun _ _ => rfl) rfl
  | .ldxDir _, _ | .ldxIx _, _ | .ldxExt _, _ =>
    allows_load16 (p := ⟨[.v, .n, .z], [.ix], [], []⟩) (fun _ _ => rfl) rfl
  | .lddDir _, _ | .lddIx _, _ | .lddExt _, _ =>
    allows_load16 (p := ⟨[.v, .n, .z], [.a, .b], [], []⟩) (fun _ _ => rfl) rfl
  | .subdDir _, _ | .subdIx _, _ | .subdExt _, _ | .adddDir _, _ | .adddIx _, _ | .adddExt _, _ =>
    allows_load16 (p := ⟨[.v, .h, .n, .z, .c], [.a, .b], [], []⟩) (fun _ _ => rfl) rfl
  | .cpdDir _, _ | .cpdIx _, _ | .cpdExt _, _ | .cpxDir _, _ | .cpxIx _, _ | .cpxExt _, _ =>
    allows_load16 (p := ⟨[.v, .h, .n, .z, .c], [], [], []⟩) (fun _ _ => rfl) rfl
  | .subdIxp _, _ | .cpdIxp _, _ | .adddIxp _, _ => allows_postInc_load16 (fun _ _ => rfl) rfl
  | .pulx, _ => allows_pull16 (f := fun w t => t.setIx w) (fun _ _ => rfl) rfl
  | .rts, _ => allows_pull16 (f := fun w t => t.setPc w) (fun _ _ => rfl) rfl
  -- a byte written
  | .clrIx _, _ | .clrExt _, _ | .movIx _ _, _ | .movExt _ _, _ | .staaDir _, _ | .staaIx _, _ | .staaExt _, _
  | .stabDir _, _ | .stabIx _, _ | .stabExt _, _ =>
    allows_write8 (p := ⟨[.v, .n, .z], [], [], _⟩) rfl fun _ => rfl
  | .staaIxp off, s => by
    show Footprint.Allows _ s (postInc 1 (staAcc .a (eaIxp off s) s))
    rw [postInc, staAcc, andThen_assoc]
    exact allows_write8 rfl fun _ => rfl
  | .negIx _, _ | .negExt _, _ | .lsrIx _, _ | .lsrExt _, _ | .rorIx _, _ | .rorExt _, _ | .asrIx _, _
  | .asrExt _, _ | .lslIx _, _ | .lslExt _, _ | .rolIx _, _ | .rolExt _, _ =>
    allows_rmw8 (p := ⟨[.v, .n, .z, .c], [], [], _⟩) (fun _ _ => rfl) rfl rfl rfl
  | .incIx _, _ | .incExt _, _ | .decIx _, _ | .decExt _, _ =>
    allows_rmw8 (p := ⟨[.v, .n, .z], [], [], _⟩) (fun _ _ => rfl) rfl rfl rfl
  | .bclrIx _ _, _ | .bclrExt _ _, _ => allows_clearBits rfl rfl rfl rfl
  | .bsetIx _ _, _ | .bsetExt _ _, _ => allows_setBits rfl rfl rfl rfl
  | .psha, _ | .pshb, _ => allows_push8 rfl fun _ => rfl
  -- words written
  | .stsDir _, _ | .stsIx _, _ | .stsExt _, _ | .stxDir _, _ | .stxIx _, _ | .stxExt _, _ | .stdDir _, _
  | .stdIx _, _ | .stdExt _, _ =>
    allows_storeReg16 (p := ⟨[.v, .n, .z], [], [], _⟩) rfl fun _ => rfl
  | .pshx, _ => allows_push16 rfl fun _ => rfl
  | .bsr _, _ | .jsrDir _, _ | .jsrIx _, _ | .jsrExt _, _ => allows_callAt rfl fun _ => rfl
  -- interrupt entry and return
  | .swi, _ => allows_trapEntry rfl fun u handler hccr => by rw [entered, ← hccr]; rfl
  | .rti, _ => allows_trapReturn

end Sys2Proof.Machine
end

section
/-! O58 to O60. The frames over all instructions, each read off the footprint (10_state.md R30 to R32; 20_memory.md R68, R80,
R81). -/

namespace Sys2Proof.Machine

open Sys2Proof.Safety

/-! ## What a footprint keeps -/

section
variable {p : Footprint} {s t : State}

theorem Footprint.flag_ccr (c d : Ccr) (f : Flag) : flag (p.ccr c d) f = if f ∈ p.flags then flag d f else flag c f := by
  cases f <;> rfl

theorem Footprint.reg_state (r : Reg) : reg (p.state s t) r = if r ∈ p.regs then reg t r else reg s r := by
  cases r <;> simp only [reg, Footprint.state] <;> split <;> rfl

theorem Footprint.Within.eq (h : p.Within s t) : t = p.state s t := h

/-- What only memory accesses, ticks, fetches and entries change. -/
theorem Footprint.Within.offBus (h : p.Within s t) : t.mem = s.mem ∧ t.dev = s.dev ∧ t.stores = s.stores ∧ t.env = s.env ∧
    t.opcode = s.opcode ∧ t.ccrOpcode = s.ccrOpcode := by
  rw [h.eq]
  exact ⟨rfl, rfl, rfl, rfl, rfl, rfl⟩

theorem Footprint.Does.flag_eq (h : p.Does s t) {f : Flag} (hf : f ∉ p.flags) : flag t.ccr f = flag s.ccr f := by
  obtain ⟨cells, u, -, hu, hw⟩ := h
  calc flag t.ccr f = flag (p.ccr u.ccr t.ccr) f := congrArg (fun x => flag x.ccr f) hw.eq
    _ = flag u.ccr f := by rw [Footprint.flag_ccr, if_neg hf]
    _ = flag s.ccr f := by rw [storeCells_next_frame hu]

theorem Footprint.Does.reg_eq (h : p.Does s t) {r : Reg} (hr : r ∉ p.regs) : reg t r = reg s r := by
  obtain ⟨cells, u, -, hu, hw⟩ := h
  calc reg t r = reg (p.state u t) r := congrArg (reg · r) hw.eq
    _ = reg u r := by rw [Footprint.reg_state, if_neg hr]
    _ = reg s r := by rw [storeCells_next_frame hu]; cases r <;> rfl

theorem Footprint.Does.run_eq (h : p.Does s t) (hm : .run ∉ p.marks) : t.run = s.run := by
  obtain ⟨cells, u, -, hu, hw⟩ := h
  calc t.run = (p.state u t).run := congrArg State.run hw.eq
    _ = u.run := if_neg hm
    _ = s.run := by rw [storeCells_next_frame hu]

theorem Footprint.Does.irqLag_eq (h : p.Does s t) (hm : .irqLag ∉ p.marks) : t.irqLag = s.irqLag := by
  obtain ⟨cells, u, -, hu, hw⟩ := h
  calc t.irqLag = (p.state u t).irqLag := congrArg State.irqLag hw.eq
    _ = u.irqLag := if_neg hm
    _ = s.irqLag := by rw [storeCells_next_frame hu]

/-- The byte writes behind a change within a footprint: all that touches RAM, the devices and the noted stores. -/
theorem Footprint.Does.writes (h : p.Does s t) : ∃ cells u, cells.map Prod.fst = p.addrs ∧ storeCells cells s = .next u ∧
    t.mem = u.mem ∧ t.dev = u.dev ∧ t.stores = u.stores := by
  obtain ⟨cells, u, hcells, hu, hw⟩ := h
  obtain ⟨hmem, hdev, hstores, -⟩ := hw.offBus
  exact ⟨cells, u, hcells, hu, hmem, hdev, hstores⟩

theorem Footprint.Does.kept (h : p.Does s t) : t.env = s.env ∧ t.opcode = s.opcode ∧ t.ccrOpcode = s.ccrOpcode := by
  obtain ⟨cells, u, -, hu, hw⟩ := h
  obtain ⟨-, -, -, henv, hop, hccr⟩ := hw.offBus
  rw [henv, hop, hccr, storeCells_next_frame hu]
  exact ⟨rfl, rfl, rfl⟩

theorem Footprint.Does.ram_eq (h : p.Does s t) {a : Word} (ha : a ∉ p.addrs) : t.ram a = s.ram a := by
  obtain ⟨cells, u, hcells, hu, hmem, -⟩ := h.writes
  calc t.ram a = u.ram a := congrArg (Memory.get · a.toNat) hmem
    _ = s.ram a := storeCells_next_ram_other hu (hcells ▸ ha)

theorem Footprint.Does.dev_eq (h : p.Does s t) (hram : ∀ a ∈ p.addrs, InRam a) : t.dev = s.dev := by
  obtain ⟨cells, u, hcells, hu, -, hdev, -⟩ := h.writes
  exact hdev.trans (storeCells_dev_of_inRam hu (hcells ▸ hram))

/-- A view of the devices that writes to registers outside a list keep is kept where none of the list is written to. -/
theorem Footprint.Does.view_dev {α : Type} {view : Devices → α} {regs : List MmReg} (h : p.Does s t)
    (hview : ∀ (d e : Devices) (q : MmReg) (v : Byte), d.write q v = some e → q ∉ regs → view e = view d)
    (hnot : ∀ q ∈ regs, mmAddr q ∉ p.addrs) : view t.dev = view s.dev := by
  obtain ⟨cells, u, hcells, hu, -, hdev, -⟩ := h.writes
  rw [hdev]
  exact storeCells_dev hview hu (hcells ▸ hnot)

theorem Footprint.Does.mem_stores (h : p.Does s t) (a : Word) : a ∈ t.stores ↔ (a ∈ p.addrs ∧ InRam a) ∨ a ∈ s.stores := by
  obtain ⟨cells, u, hcells, hu, -, -, hstores⟩ := h.writes
  rw [hstores, mem_stores_storeCells hu, hcells]

end

/-! ## Every instruction -/

section
variable {i : Instr} {s t : State}

theorem exec_does (h : exec i s = .next t) : (footprint s i).Does s t := (exec_allows i s).1 t h

theorem stopsAsAccess_exec (i : Instr) (s : State) : StopsAsAccess (exec i s) := (exec_allows i s).2

theorem run_mem_marksWritten (h : .run ∈ marksWritten i) : i = .stop ∨ i = .wait := by
  unfold marksWritten at h
  split at h <;> simp_all

theorem irqLag_mem_marksWritten (h : .irqLag ∈ marksWritten i) : i = .cli ∨ i = .rti := by
  unfold marksWritten at h
  split at h <;> simp_all

/-- Only STOP and WAIT change whether the machine runs. -/
theorem exec_run (h : exec i s = .next t) (hstop : i ≠ .stop) (hwait : i ≠ .wait) : t.run = s.run :=
  (exec_does h).run_eq fun hm => (run_mem_marksWritten hm).elim hstop hwait

end

/-! ## The statements -/

/-- Settles O58: the byte writes of the footprint, and what they leave. -/
theorem memoryAndDeviceFrame : Obligations.MemoryAndDeviceFrame := by
  intro i s t h
  have hd : (footprint s i).Does s t := exec_does h
  obtain ⟨henv, hop, hccrOp⟩ := hd.kept
  refine ⟨fun a ha => hd.ram_eq ha, fun hram => hd.dev_eq hram, fun r hr => ?_, fun hirq => ?_, fun h1 h2 => ?_, henv, hop, hccrOp,
    exec_run h⟩
  · exact hd.view_dev (view := (held · r)) (fun _ _ _ _ hw hq => held_write hw hq) hr
  · have hpending : t.dev.pending = s.dev.pending :=
      hd.view_dev (regs := [.irqctl]) (fun _ _ _ _ hw hq => pending_write hw (List.ne_of_not_mem_cons hq)) (by simpa [footprint] using hirq)
    simpa [Devices.pending] using hpending
  · exact hd.view_dev (view := Devices.outputs) (regs := [.out1, .out2])
      (fun _ _ _ _ hw hq => by simp only [List.mem_cons, not_or] at hq; exact outputs_write hw hq.1 hq.2.1) (by simp [footprint, h1, h2])

/-- Settles O59: a flag outside the footprint. -/
theorem flagFrame : Obligations.FlagFrame := fun _ _ _ h _ hf => (exec_does h).flag_eq hf

/-- Settles O60: a register outside the footprint. -/
theorem registerFrame : Obligations.RegisterFrame := fun _ _ _ h _ hr => (exec_does h).reg_eq hr

end Sys2Proof.Machine
end

section
/-! O5 to O12, O14, O21 and O22. The boundary, the fetch and the step: what runs, why a step stops, and the invariant
(60_exceptions.md R350 to R373; 30_encoding.md R114, R120; 70_reset_and_hazards.md R402). -/

namespace Sys2Proof.Machine

open Sys2Proof.Safety

/-! ## The boundary -/

/-- A boundary changes the devices and takes one tick of the environment. -/
theorem State.boundary_eq (s : State) : s.boundary = { s with dev := s.boundary.dev, env := s.boundary.env } := by
  unfold State.boundary
  split <;> rfl

section
variable (s : State)

@[simp] theorem State.a_boundary : s.boundary.a = s.a := by rw [s.boundary_eq]
@[simp] theorem State.b_boundary : s.boundary.b = s.b := by rw [s.boundary_eq]
@[simp] theorem State.ix_boundary : s.boundary.ix = s.ix := by rw [s.boundary_eq]
@[simp] theorem State.sp_boundary : s.boundary.sp = s.sp := by rw [s.boundary_eq]
@[simp] theorem State.pc_boundary : s.boundary.pc = s.pc := by rw [s.boundary_eq]
@[simp] theorem State.ccr_boundary : s.boundary.ccr = s.ccr := by rw [s.boundary_eq]
@[simp] theorem State.mem_boundary : s.boundary.mem = s.mem := by rw [s.boundary_eq]
@[simp] theorem State.ram_boundary (a : Word) : s.boundary.ram a = s.ram a := by rw [s.boundary_eq]; rfl
@[simp] theorem State.run_boundary : s.boundary.run = s.run := by rw [s.boundary_eq]
@[simp] theorem State.ccrOpcode_boundary : s.boundary.ccrOpcode = s.ccrOpcode := by rw [s.boundary_eq]
@[simp] theorem State.stores_boundary : s.boundary.stores = s.stores := by rw [s.boundary_eq]
@[simp] theorem State.irqLag_boundary : s.boundary.irqLag = s.irqLag := by rw [s.boundary_eq]
@[simp] theorem State.draws_boundary : s.boundary.draws = s.draws := by rw [s.boundary_eq]

@[simp] theorem State.ram_setPc (w a : Word) : (s.setPc w).ram a = s.ram a := rfl
@[simp] theorem State.ram_drew (n : Nat) (a : Word) : (s.drew n).ram a = s.ram a := rfl

/-- A boundary keeps the output ports and the record of what was written to them. -/
theorem State.outputs_boundary : s.boundary.dev.out1 = s.dev.out1 ∧ s.boundary.dev.out2 = s.dev.out2 ∧
    s.boundary.dev.outputs = s.dev.outputs := by
  unfold State.boundary
  split <;> exact ⟨rfl, rfl, rfl⟩

end

/-! ## The recognition unit -/

theorem mem_requests_iff (d : Devices) (src : Source) : src ∈ d.requests ↔ asks d src := by
  cases src <;> simp [Devices.requests, asks]

theorem interruption_iff (s : State) : s.interruption = true ↔ s.ccr.i = false ∧ ∃ src, asks s.dev src := by
  simp only [State.interruption, Bool.and_eq_true, Bool.not_eq_true', List.isEmpty_eq_false_iff_exists_mem,
    mem_requests_iff]

/-- The selected source is one of those that ask (log 8). -/
theorem asks_selected {s : State} (h : s.interruption = true) : asks s.dev s.selected := by
  rw [← mem_requests_iff]
  unfold State.selected
  split
  · next hnone => simp [State.interruption, hnone] at h
  · next src hone => simp [hone]
  · next x more _ hmany =>
    have hlt : Config.freeChoice s.draws % (x :: more).length < (x :: more).length := Nat.mod_lt _ (by simp)
    rw [hmany, List.getD_eq_getElem _ _ hlt]
    exact List.getElem_mem hlt

theorem interruption_of_masked {s : State} (h : s.ccr.i = true) : s.interruption = false := by
  simp [State.interruption, h]

@[simp] theorem interruption_drew (s : State) (n : Nat) : (s.drew n).interruption = s.interruption := rfl

/-! ## The kinds of step -/

theorem step_running {s : State} (h : s.run = .running) : step s = stepRunning s.boundary := by rw [step, cycle, h]

theorem step_waiting {s : State} (h : s.run = .waiting) : step s = stepWaiting s.boundary := by rw [step, cycle, h]

theorem step_stopped {s : State} (h : s.run = .stopped) : step s = .fault .runEnded := by rw [step, cycle, h]

theorem step_uninterrupted {s : State} (hrun : s.run = .running) (hint : s.boundary.interruption = false) :
    step s = runInstr s.boundary := by
  simp [step_running hrun, stepRunning, hint]

theorem step_interrupted {s : State} (hrun : s.run = .running) (hlag : s.irqLag = false)
    (hint : s.boundary.interruption = true) : step s = enterInterrupt s.boundary := by
  simp [step_running hrun, stepRunning, hint, hlag]

/-- Where recognition may come late, one instruction runs first or the interrupt is entered (R353; log 9). -/
theorem step_lagging {s : State} (hrun : s.run = .running) (hlag : s.irqLag = true) (hint : s.boundary.interruption = true) :
    step s = runInstr (s.boundary.drew 1) ∨ step s = enterInterrupt (s.boundary.drew 1) := by
  simp only [step_running hrun, stepRunning, hint, State.irqLag_boundary, hlag, if_true]
  cases s.boundary.putsOff
  · exact .inr rfl
  · exact .inl rfl

theorem step_waiting_interrupted {s : State} (hrun : s.run = .waiting) (hint : s.boundary.interruption = true) :
    step s = enterInterrupt s.boundary := by
  simp [step_waiting hrun, stepWaiting, hint]

theorem step_waiting_quiet {s : State} (hrun : s.run = .waiting) (hint : s.boundary.interruption = false) :
    step s = .next s.boundary := by
  simp [step_waiting hrun, stepWaiting, hint]

/-- Every step is an instruction, an entry, a boundary spent waiting, or the end of the run; on the boundary's state, but for
a value drawn. -/
theorem step_cases (s : State) :
    (∃ n, s.run = .running ∧ step s = runInstr (s.boundary.drew n)) ∨
    (∃ n, s.boundary.interruption = true ∧ step s = enterInterrupt (s.boundary.drew n)) ∨
    (s.run = .waiting ∧ step s = .next s.boundary) ∨ (s.run = .stopped ∧ step s = .fault .runEnded) := by
  have hdrew0 : s.boundary = s.boundary.drew 0 := rfl
  cases hrun : s.run with
  | running =>
    cases hint : s.boundary.interruption with
    | false => exact .inl ⟨0, rfl, hdrew0 ▸ step_uninterrupted hrun hint⟩
    | true =>
      cases hlag : s.irqLag with
      | false => exact .inr (.inl ⟨0, rfl, hdrew0 ▸ step_interrupted hrun hlag hint⟩)
      | true =>
        rcases step_lagging hrun hlag hint with h | h
        · exact .inl ⟨1, rfl, h⟩
        · exact .inr (.inl ⟨1, rfl, h⟩)
  | waiting =>
    cases hint : s.boundary.interruption with
    | false => exact .inr (.inr (.inl ⟨rfl, step_waiting_quiet hrun hint⟩))
    | true => exact .inr (.inl ⟨0, rfl, hdrew0 ▸ step_waiting_interrupted hrun hint⟩)
  | stopped => exact .inr (.inr (.inr ⟨rfl, step_stopped hrun⟩))

/-! ## Fetching -/

theorem fetch8_inRam {s : State} (h : InRam s.pc) : fetch8 s = .next (s.ram s.pc, s.setPc (s.pc + 1)) := by
  simp [fetch8, isRam_of_inRam h]

theorem fetch8_not_inRam {s : State} (h : ¬ InRam s.pc) : fetch8 s = .fault (.invalidAccess s.pc) := by
  simp [fetch8, not_isRam_of_not_inRam h]

theorem add_ofNat_succ (a : Word) (k : Nat) : a + BitVec.ofNat 16 (k + 1) = a + 1 + BitVec.ofNat 16 k := by
  rw [Nat.add_comm k 1, BitVec.ofNat_add, BitVec.add_assoc]
  rfl

theorem length_codeAt (s : State) (n : Nat) : (codeAt s n).length = n := by simp [codeAt]

theorem codeAt_succ (s : State) (n : Nat) : codeAt s (n + 1) = s.ram s.pc :: codeAt (s.setPc (s.pc + 1)) n := by
  simp only [codeAt, List.range_succ_eq_map, List.map_cons, List.map_map, BitVec.ofNat_eq_ofNat, BitVec.add_zero,
    State.pc_setPc, State.ram_setPc]
  congr 1
  exact List.map_congr_left fun k _ => congrArg s.ram (add_ofNat_succ s.pc k)

/-- The n bytes from PC on are fetched where they all lie in RAM. -/
theorem fetchBytes_inRam {n : Nat} {s : State} (h : ∀ k < n, InRam (s.pc + BitVec.ofNat 16 k)) :
    fetchBytes n s = .next (codeAt s n, s.setPc (s.pc + BitVec.ofNat 16 n)) := by
  induction n generalizing s with
  | zero => simp [fetchBytes, codeAt, State.setPc]
  | succ n ih =>
    have hpc : InRam s.pc := by simpa using h 0 (Nat.succ_pos n)
    have hrest : ∀ k < n, InRam ((s.setPc (s.pc + 1)).pc + BitVec.ofNat 16 k) := fun k hk => by
      rw [State.pc_setPc, ← add_ofNat_succ]
      exact h (k + 1) (Nat.succ_lt_succ hk)
    rw [fetchBytes, fetch8_inRam hpc, andThen_next, ih hrest, andThen_next, codeAt_succ, State.pc_setPc, ← add_ofNat_succ]
    rfl

/-- The first of the n addresses outside RAM stops the fetch (R74, R75). -/
theorem fetchBytes_not_inRam {n k : Nat} {s : State} (hk : k < n) (h : ∀ j < k, InRam (s.pc + BitVec.ofNat 16 j))
    (hnot : ¬ InRam (s.pc + BitVec.ofNat 16 k)) :
    fetchBytes n s = .fault (.invalidAccess (s.pc + BitVec.ofNat 16 k)) := by
  induction n generalizing s k with
  | zero => exact absurd hk (Nat.not_lt_zero k)
  | succ n ih =>
    cases k with
    | zero =>
      have hpc : ¬ InRam s.pc := by simpa using hnot
      rw [fetchBytes, fetch8_not_inRam hpc, andThen_fault, BitVec.add_zero]
    | succ k =>
      have hpc : InRam s.pc := by simpa using h 0 (Nat.succ_pos k)
      rw [add_ofNat_succ] at hnot
      have hrest : ∀ j < k, InRam ((s.setPc (s.pc + 1)).pc + BitVec.ofNat 16 j) := fun j hj => by
        rw [State.pc_setPc, ← add_ofNat_succ]
        exact h (j + 1) (Nat.succ_lt_succ hj)
      rw [fetchBytes, fetch8_inRam hpc, andThen_next, ih (Nat.lt_of_succ_lt_succ hk) hrest hnot, andThen_fault,
        add_ofNat_succ, State.pc_setPc]

/-- Whether all of the first n addresses are in RAM, or there is a first one that is not. -/
theorem inRam_all_or_least (a : Word) (n : Nat) : (∀ k < n, InRam (a + BitVec.ofNat 16 k)) ∨
    ∃ k < n, (∀ j < k, InRam (a + BitVec.ofNat 16 j)) ∧ ¬ InRam (a + BitVec.ofNat 16 k) := by
  induction n with
  | zero => exact .inl fun k hk => absurd hk (Nat.not_lt_zero k)
  | succ n ih =>
    rcases ih with hall | ⟨k, hk, hbefore, hnot⟩
    · by_cases hn : InRam (a + BitVec.ofNat 16 n)
      · exact .inl fun k hk => (Nat.lt_succ_iff_lt_or_eq.mp hk).elim (hall k) fun e => e ▸ hn
      · exact .inr ⟨n, Nat.lt_succ_self n, hall, hn⟩
    · exact .inr ⟨k, Nat.lt_succ_of_lt hk, hbefore, hnot⟩

section
variable {s : State}

theorem fetchInstr_overwritten (h : s.pc ∈ s.stores) : fetchInstr s = .fault (.opcodeOverwritten s.pc) := by
  simp [fetchInstr, h]

theorem fetchInstr_not_inRam (h : s.pc ∉ s.stores) (hpc : ¬ InRam s.pc) :
    fetchInstr s = .fault (.invalidAccess s.pc) := by
  simp [fetchInstr, h, fetch8_not_inRam hpc]

theorem fetchInstr_empty (h : s.pc ∉ s.stores) (hpc : InRam s.pc) (hop : operandBytes (s.ram s.pc) = none) :
    fetchInstr s = .fault (.illegalOpcode (s.ram s.pc)) := by
  simp [fetchInstr, h, fetch8_inRam hpc, hop]

theorem fetchInstr_operand_not_inRam {n k : Nat} (h : s.pc ∉ s.stores) (hop : operandBytes (s.ram s.pc) = some n) (hk : k < n)
    (hin : ∀ j ≤ k, InRam (s.pc + BitVec.ofNat 16 j)) (hnot : ¬ InRam (s.pc + BitVec.ofNat 16 (k + 1))) :
    fetchInstr s = .fault (.invalidAccess (s.pc + BitVec.ofNat 16 (k + 1))) := by
  have hpc : InRam s.pc := by simpa using hin 0 (Nat.zero_le k)
  rw [add_ofNat_succ] at hnot ⊢
  have hbefore : ∀ j < k, InRam ((s.setPc (s.pc + 1)).pc + BitVec.ofNat 16 j) := fun j hj => by
    rw [State.pc_setPc, ← add_ofNat_succ]
    exact hin (j + 1) hj
  have hfetch := fetchBytes_not_inRam hk hbefore hnot
  simp only [fetchInstr, List.contains_eq_mem, h, decide_false, Bool.false_eq_true, if_false, fetch8_inRam hpc, andThen_next, hop,
    hfetch, andThen_fault, State.pc_setPc]

/-- An instruction wholly in RAM is fetched and decoded (R114). -/
theorem fetchInstr_inRam {n : Nat} (h : s.pc ∉ s.stores) (hop : operandBytes (s.ram s.pc) = some n)
    (hin : ∀ k < n + 1, InRam (s.pc + BitVec.ofNat 16 k)) :
    ∃ i, decode (codeAt s (n + 1)) = .ok i [] ∧ fetchInstr s = .next (i, readyToExecute (n + 1) s) := by
  have hreads := readsOperands_of_some hop
  have hpc : InRam s.pc := by simpa using hin 0 (Nat.succ_pos n)
  have hrest : ∀ k < n, InRam ((s.setPc (s.pc + 1)).pc + BitVec.ofNat 16 k) := fun k hk => by
    rw [State.pc_setPc, ← add_ofNat_succ]
    exact hin (k + 1) (Nat.succ_lt_succ hk)
  obtain ⟨i, rest, hok⟩ := hreads.enough (codeAt (s.setPc (s.pc + 1)) n) (length_codeAt _ n).ge
  have hrest0 : rest = [] := by
    have hlen := (hreads.decoded _ _ _ hok).2.2
    rw [length_codeAt] at hlen
    exact List.eq_nil_of_length_eq_zero (by omega)
  rw [hrest0] at hok
  refine ⟨i, by rw [codeAt_succ]; exact hok, ?_⟩
  have hdec : decode (s.ram s.pc :: codeAt (s.setPc (s.pc + 1)) n) = .ok i [] := hok
  simp only [fetchInstr, List.contains_eq_mem, h, decide_false, Bool.false_eq_true, if_false, fetch8_inRam hpc, andThen_next, hop,
    fetchBytes_inRam hrest, hdec]
  rw [State.pc_setPc, ← add_ofNat_succ]
  rfl

/-- How a fetch ends: an instruction decoded, or one of the stops of the spec (decisions D30, D31, D36). -/
theorem fetchInstr_cases (s : State) :
    (∃ n i, operandBytes (s.ram s.pc) = some n ∧ fetchInstr s = .next (i, readyToExecute (n + 1) s)) ∨
    (∃ k ≤ 4, ¬ InRam (s.pc + BitVec.ofNat 16 k) ∧ fetchInstr s = .fault (.invalidAccess (s.pc + BitVec.ofNat 16 k))) ∨
    (operandBytes (s.ram s.pc) = none ∧ fetchInstr s = .fault (.illegalOpcode (s.ram s.pc))) ∨
    (s.pc ∈ s.stores ∧ fetchInstr s = .fault (.opcodeOverwritten s.pc)) := by
  by_cases hst : s.pc ∈ s.stores
  · exact .inr (.inr (.inr ⟨hst, fetchInstr_overwritten hst⟩))
  by_cases hpc : InRam s.pc
  · cases hop : operandBytes (s.ram s.pc) with
    | none => exact .inr (.inr (.inl ⟨rfl, fetchInstr_empty hst hpc hop⟩))
    | some n =>
      rcases inRam_all_or_least s.pc (n + 1) with hall | ⟨k, hk, hbefore, hnot⟩
      · obtain ⟨i, -, hi⟩ := fetchInstr_inRam hst hop hall
        exact .inl ⟨n, i, rfl, hi⟩
      · have hfour : n ≤ 4 := (readsOperands_of_some hop).atMostFour
        cases k with
        | zero => exact absurd hpc (by simpa using hnot)
        | succ k =>
          exact .inr (.inl ⟨k + 1, by omega, hnot, fetchInstr_operand_not_inRam hst hop (by omega)
            (fun j hj => hbefore j (Nat.lt_succ_of_le hj)) hnot⟩)
  · exact .inr (.inl ⟨0, by decide, by simpa using hpc, by simpa using fetchInstr_not_inRam hst hpc⟩)

end

/-- Bytes that decode with nothing left are as many as their opcode says. -/
theorem operandBytes_of_decode {s : State} {n : Nat} {i : Instr} (h : decode (codeAt s n) = .ok i []) :
    ∃ m, n = m + 1 ∧ operandBytes (s.ram s.pc) = some m := by
  cases n with
  | zero => cases h
  | succ m =>
    rw [codeAt_succ] at h
    obtain ⟨op, ops, k, hcode, hk, hreads, hops⟩ := decode_ok h
    obtain ⟨rfl, rfl⟩ := List.cons.inj hcode
    have hlen := (hreads.decoded _ _ _ hops).2.2
    rw [length_codeAt, List.length_nil, Nat.add_zero] at hlen
    exact ⟨m, rfl, hlen ▸ hk⟩

/-! ## The statements on fetching and on the recognition unit -/

/-- Settles O5: the fetch gives the instruction the bytes decode to. -/
theorem stepRunsTheDecodedInstruction : Obligations.StepRunsTheDecodedInstruction := by
  intro s n i hrun hint hst hin hdec
  obtain ⟨m, rfl, hop⟩ := operandBytes_of_decode hdec
  have hcode : codeAt s.boundary (m + 1) = codeAt s (m + 1) := by simp [codeAt]
  obtain ⟨j, hj, hfetch⟩ := fetchInstr_inRam (s := s.boundary) (n := m) (by simpa using hst) (by simpa using hop) (by simpa using hin)
  rw [hcode, hdec] at hj
  cases hj
  have hmem : (readyToExecute (m + 1) s.boundary).mem = s.mem := s.mem_boundary
  rw [step_uninterrupted hrun hint, runInstr, hfetch, andThen_next, hmem]

/-- Settles O6: the fetch's stops are the step's. -/
theorem fetchStopsAsTheSpecSays : Obligations.FetchStopsAsTheSpecSays := by
  intro s hrun hint
  have hstop : ∀ r, fetchInstr s.boundary = .fault r → step s = .fault r := fun r hr => by
    rw [step_uninterrupted hrun hint, runInstr, hr, andThen_fault]
  refine ⟨fun hst => ?_, fun hst hpc => ?_, fun hst hpc hop => ?_, fun n k hst hop hk hin hnot => ?_⟩
  · exact hstop _ (by simpa using fetchInstr_overwritten (s := s.boundary) (by simpa using hst))
  · exact hstop _ (by simpa using fetchInstr_not_inRam (s := s.boundary) (by simpa using hst) (by simpa using hpc))
  · exact hstop _ (by
      simpa using fetchInstr_empty (s := s.boundary) (by simpa using hst) (by simpa using hpc) (by simpa using hop))
  · exact hstop _ (by
      simpa using fetchInstr_operand_not_inRam (s := s.boundary) (by simpa using hst) (by simpa using hop) hk
        (by simpa using hin) (by simpa using hnot))

/-- Settles O12: the requests are the sources that ask, and one of them is selected. -/
theorem recognitionUnitMasksAndSelects : Obligations.RecognitionUnitMasksAndSelects := by
  refine ⟨interruption_iff, fun s => asks_selected, fun s v => ⟨s.setDev (s.dev.writeIrqctl v), rfl, ?_⟩, fun s hrun hmask => ?_⟩
  · simp [Devices.writeIrqctl]
  · exact step_uninterrupted hrun (interruption_of_masked (by simpa using hmask))

/-! ## The lookahead and the noted stores -/

/-- What a step that is no boundary spent waiting leaves: the state before the lookahead load notes RAM addresses alone. -/
theorem runInstr_loaded {s t : State} (h : runInstr s = .next t) :
    ∃ v : State, t = v.lookahead s.mem ∧ ∀ a ∈ v.stores, InRam a := by
  obtain ⟨i, u, v, hfetch, hexec, rfl⟩ := runInstr_next h
  obtain ⟨op, pc, rfl⟩ := fetchInstr_next hfetch
  refine ⟨v, rfl, fun a ha => ?_⟩
  rw [(exec_does hexec).mem_stores] at ha
  simpa using ha.imp And.right id

/-- A hardware entry changes what SWI does (R340, R345). -/
theorem trapEntry_does {vector : Word} {s t : State} (h : trapEntry vector s = .next t) : (footprint s .swi).Does s t := by
  have hallows : (footprint s .swi).Allows s (trapEntry vector s) :=
    allows_trapEntry rfl fun u handler hccr => by rw [entered, ← hccr]; rfl
  exact hallows.1 t h

theorem enterInterrupt_loaded {s t : State} (h : enterInterrupt s = .next t) :
    ∃ v : State, t = v.lookahead s.mem ∧ ∀ a ∈ v.stores, InRam a := by
  obtain ⟨v, hentry, rfl⟩ := enterInterrupt_next h
  refine ⟨v, rfl, fun a ha => ?_⟩
  rw [(trapEntry_does hentry).mem_stores] at ha
  simpa using ha.imp And.right id

theorem opcode_lookahead (old : Memory) (v : State) : (v.lookahead old).opcode = (v.nextOpcode old).1 := rfl

/-- The lookahead load gives the byte at PC; where it was just stored to, that byte or the one before (R402; log 26). -/
theorem opcode_lookahead_cases (old : Memory) {v : State} (hv : ∀ a ∈ v.stores, InRam a) :
    (InRam v.pc → v.pc ∉ v.stores → (v.lookahead old).opcode = v.ram v.pc) ∧
    (v.pc ∈ v.stores →
      InRam v.pc ∧ ((v.lookahead old).opcode = old.get v.pc.toNat ∨ (v.lookahead old).opcode = v.ram v.pc)) := by
  rw [opcode_lookahead]
  rcases nextOpcode_cases old v with ⟨-, hnot, hbyte⟩ | ⟨hram, hmem, hbyte | hbyte⟩ | ⟨hram, -⟩
  · exact ⟨fun _ _ => by rw [hbyte], fun hmem => absurd hmem hnot⟩
  · exact ⟨fun _ hnot => absurd hmem hnot, fun _ => ⟨(isRam_iff _).mp hram, .inl (by rw [hbyte])⟩⟩
  · exact ⟨fun _ hnot => absurd hmem hnot, fun _ => ⟨(isRam_iff _).mp hram, .inr (by rw [hbyte])⟩⟩
  · have hnot : ¬ InRam v.pc := not_lt.mpr ((not_isRam_iff _).mp hram)
    exact ⟨fun h => absurd h hnot, fun h => absurd (hv _ h) hnot⟩

/-- Settles O7: the noted stores from the footprint, the opcode loaded ahead from what the load gives. -/
theorem storedRamAddressesAreNoted : Obligations.StoredRamAddressesAreNoted := by
  refine ⟨fun i s t hst h a => ?_, fun s t h => ?_⟩
  · rw [(exec_does h).mem_stores, hst]
    simp [footprint]
  · have hloaded : (∃ v : State, t = v.lookahead s.mem ∧ ∀ a ∈ v.stores, InRam a) ∨ (s.run = .waiting ∧ t = s.boundary) := by
      rcases step_cases s with ⟨n, -, hs⟩ | ⟨n, -, hs⟩ | ⟨hrun, hs⟩ | ⟨-, hs⟩ <;> rw [hs] at h
      · exact .inl (by simpa using runInstr_loaded h)
      · exact .inl (by simpa using enterInterrupt_loaded h)
      · cases h; exact .inr ⟨hrun, rfl⟩
      · cases h
    rcases hloaded with ⟨v, rfl, hv⟩ | hwait
    · exact .inr (opcode_lookahead_cases s.mem hv)
    · exact .inl hwait

/-! ## Why a step stops -/

theorem stopsAsAccess_enterInterrupt (s : State) : StopsAsAccess (enterInterrupt s) := by
  have hallows : (footprint (s.drew 1).taken .swi).Allows _ (trapEntry s.selected.vector (s.drew 1).taken) :=
    allows_trapEntry rfl fun u handler hccr => by rw [entered, ← hccr]; rfl
  exact hallows.2.andThen fun _ _ => trivial

/-- Settles O11: a step stops as its fetch or its data accesses stop, or because the run has ended. -/
theorem stopsAreOnlyTheNamedOnes : Obligations.StopsAreOnlyTheNamedOnes := by
  intro s
  have haccess : ∀ x : Res State, StopsAsAccess x →
      (∀ r, x = .fault r → ∃ a, r = .invalidAccess a ∧ ¬ Readable a) ∧
      (∀ r, x = .refused r → (∃ a, r = .inputRegisterWrite a ∧ 0x8008 ≤ a.toNat ∧ a.toNat ≤ 0x800D) ∨
        (∃ a, r = .testOfDevice a ∧ 0x8000 ≤ a.toNat ∧ a.toNat ≤ 0x800D)) := by
    rintro (t | r | r) hx
    · exact ⟨nofun, nofun⟩
    · exact ⟨by rintro _ ⟨⟩; exact hx, nofun⟩
    · refine ⟨nofun, ?_⟩
      rintro _ ⟨⟩
      rcases hx with ⟨a, ha, hread, hwrite⟩ | ⟨a, ha, hram, hread⟩
      · exact .inl ⟨a, ha, not_le.mp hwrite, hread⟩
      · exact .inr ⟨a, ha, not_lt.mp hram, hread⟩
  rcases step_cases s with ⟨n, -, hs⟩ | ⟨n, -, hs⟩ | ⟨-, hs⟩ | ⟨hrun, hs⟩ <;> rw [hs]
  · rcases fetchInstr_cases (s.boundary.drew n) with ⟨m, i, -, hf⟩ | ⟨k, hk, hram, hf⟩ | ⟨hop, hf⟩ | ⟨hst, hf⟩ <;>
      rw [runInstr, hf]
    · have hstop : StopsAsAccess (andThen (exec i (readyToExecute (m + 1) (s.boundary.drew n))) fun t =>
          .next (t.lookahead (readyToExecute (m + 1) (s.boundary.drew n)).mem)) :=
        (stopsAsAccess_exec _ _).andThen fun _ _ => trivial
      exact ⟨fun r hr => .inl ((haccess _ hstop).1 r hr), (haccess _ hstop).2⟩
    · refine ⟨?_, nofun⟩
      rintro _ ⟨⟩
      exact .inr (.inl ⟨k, hk, by simp, by simpa using hram⟩)
    · refine ⟨?_, nofun⟩
      rintro _ ⟨⟩
      exact .inr (.inr (.inl ⟨by simp, by simpa using hop⟩))
    · refine ⟨?_, nofun⟩
      rintro _ ⟨⟩
      exact .inr (.inr (.inr (.inl ⟨by simp, by simpa using hst⟩)))
  · have hstop := stopsAsAccess_enterInterrupt (s.boundary.drew n)
    exact ⟨fun r hr => .inl ((haccess _ hstop).1 r hr), (haccess _ hstop).2⟩
  · exact ⟨nofun, nofun⟩
  · exact ⟨by rintro _ ⟨⟩; exact .inr (.inr (.inr (.inr ⟨rfl, hrun⟩))), nofun⟩

/-! ## Late recognition -/

/-- An instruction that lets recognition come late is CLI or RTI, and leaves I clear (R149, R353). -/
theorem exec_irqLag {i : Instr} {s t : State} (hs : s.irqLag = false) (h : exec i s = .next t) (ht : t.irqLag = true) :
    (i = .cli ∨ i = .rti) ∧ t.ccr.i = false := by
  have hmark : .irqLag ∈ marksWritten i := by
    by_contra hnot
    have hkept : t.irqLag = s.irqLag := (exec_does h).irqLag_eq hnot
    rw [ht, hs] at hkept
    cases hkept
  have hi := irqLag_mem_marksWritten hmark
  refine ⟨hi, ?_⟩
  rcases hi with rfl | rfl
  · cases h
    rfl
  · obtain ⟨_, _, _, _, _, u, _, _, _, rfl⟩ := trapReturn_next h
    simpa using ht

/-- Settles O14: the two outcomes of a late boundary, and what CLI and RTI leave. -/
theorem recognitionMayComeOneInstructionLate : Obligations.RecognitionMayComeOneInstructionLate :=
  ⟨fun _ hrun hint hlag => step_lagging hrun hlag hint, fun _ _ _ hs h ht => exec_irqLag hs h ht⟩

/-! ## Waiting, stopping, and the environment -/

theorem run_succ_of_next {M : Host.Core} {k : Nat} {s t : M.State} (h : M.step s = .next t) : M.run (k + 1) s = M.run k t := by
  rw [Host.Core.run, h]

/-- A masked waiting machine waits on, its registers, flags and RAM as they were, however many boundaries pass. -/
theorem run_waiting (k : Nat) (s : State) (hrun : s.run = .waiting) (hmask : s.ccr.i = true) :
    ∃ t, Sys2Proof.core.run k s = .next t ∧ t.run = .waiting ∧ t.pc = s.pc ∧ t.sp = s.sp ∧ t.ix = s.ix ∧
      t.a = s.a ∧ t.b = s.b ∧ t.ccr = s.ccr ∧ t.mem = s.mem := by
  induction k generalizing s with
  | zero => exact ⟨s, rfl, hrun, rfl, rfl, rfl, rfl, rfl, rfl, rfl⟩
  | succ k ih =>
    have hstep : Sys2Proof.core.step s = .next s.boundary :=
      step_waiting_quiet hrun (interruption_of_masked (by simpa using hmask))
    rw [run_succ_of_next hstep]
    simpa using ih s.boundary (by simpa using hrun) (by simpa using hmask)

/-- Settles O21: by induction on the number of boundaries. -/
theorem waitingStuttersAndStoppedEnds : Obligations.WaitingStuttersAndStoppedEnds :=
  ⟨fun _ => step_waiting_quiet, run_waiting, fun _ => step_stopped⟩

/-- Settles O22: what one tick does to the devices. -/
theorem environmentActsOnlyOnItsOwnState : Obligations.EnvironmentActsOnlyOnItsOwnState := by
  intro s
  refine ⟨fun henv => by simp [State.boundary, henv], fun e rest henv => ?_⟩
  have hb : s.boundary = { s with dev := s.dev.tick e, env := rest } := by simp only [State.boundary, henv]
  rw [hb]
  refine ⟨rfl, ?_, ?_⟩
  · simp [Devices.tick]
  · simp [Devices.tick]

/-! ## The invariant -/

/-- Settles O8: by evaluation of the reset state. -/
theorem resetStartsAtProgramRegion : Obligations.ResetStartsAtProgramRegion := by
  refine ⟨rfl, rfl, rfl, rfl, rfl, rfl, rfl, rfl, fun src => ?_, rfl, rfl, rfl⟩
  cases src <;> simp [asks, State.reset, Devices.reset]

/-- Settles O9: nothing is listed, noted or recorded at reset, and the opcode 0x00 is NOP. -/
theorem resetMeetsTheInvariant : Obligations.ResetMeetsTheInvariant where
  ramCanonical := rfl
  storesInRam := by simp [State.reset]
  lagOnlyUnmasked := nofun
  quietWhenNotRunning h := absurd rfl h
  opcodeDefined := rfl
  out1Last := nofun
  out2Last := nofun

/-- The byte an output port presents (R40). -/
def presented (d : Devices) : OutPort → Byte
  | .out1 => d.out1
  | .out2 => d.out2

/-- A write to a register is recorded as the last output of a port and presented there, or leaves both alone (R361). -/
theorem presented_write {d e : Devices} {r : MmReg} {v : Byte} (p : OutPort) (h : d.write r v = some e) :
    (presented e p = v ∧ lastOutput p e = some v) ∨ (presented e p = presented d p ∧ lastOutput p e = lastOutput p d) := by
  cases r <;> cases h <;> cases p <;> simp [presented, lastOutput, Devices.writeIrqctl, Devices.writeTmrctl]

/-- The part of the invariant that byte writes alone touch: RAM and the output ports. -/
structure BusInv (s : State) : Prop where
  ramCanonical : s.mem.wf = true
  outLast : ∀ p v, lastOutput p s.dev = some v → presented s.dev p = v

theorem busInv_of_inv {s : State} (h : Inv s) : BusInv s where
  ramCanonical := h.ramCanonical
  outLast
    | .out1 => h.out1Last
    | .out2 => h.out2Last

theorem BusInv.congr {s t : State} (h : BusInv s) (hmem : t.mem = s.mem) (h1 : t.dev.out1 = s.dev.out1)
    (h2 : t.dev.out2 = s.dev.out2) (hout : t.dev.outputs = s.dev.outputs) : BusInv t where
  ramCanonical := hmem ▸ h.ramCanonical
  outLast p v hv := by
    have hpresented : presented t.dev p = presented s.dev p := by cases p <;> assumption
    rw [lastOutput, hout] at hv
    exact hpresented.trans (h.outLast p v hv)

theorem BusInv.write8 {a : Word} {v : Byte} {s t : State} (h : write8 a v s = .next t) (hs : BusInv s) : BusInv t := by
  rcases write8_next h with ⟨hram, rfl⟩ | ⟨-, r, e, -, he, rfl⟩
  · exact ⟨State.wf_storeRam v hs.ramCanonical hram, hs.outLast⟩
  · refine ⟨hs.ramCanonical, fun p x hx => ?_⟩
    rw [State.dev_setDev] at hx ⊢
    rcases presented_write p he with ⟨hnew, hlast⟩ | ⟨hsame, hlast⟩ <;> rw [hlast] at hx
    · exact hnew.trans (Option.some.inj hx)
    · exact hsame.trans (hs.outLast p x hx)

theorem Footprint.Does.busInv {p : Footprint} {s t : State} (h : p.Does s t) (hs : BusInv s) : BusInv t := by
  obtain ⟨cells, u, -, hu, hmem, hdev, -⟩ := h.writes
  have hbus : BusInv s → BusInv u :=
    storeCells_induction (P := fun s t => BusInv s → BusInv t) (fun _ h => h) (fun _ _ _ h1 h2 h => h2 (h1 h)) hu
      fun _ _ _ _ hw => BusInv.write8 hw
  exact (hbus hs).congr hmem (by rw [hdev]) (by rw [hdev]) (by rw [hdev])

theorem BusInv.boundary {s : State} (h : BusInv s) : BusInv s.boundary := by
  obtain ⟨h1, h2, hout⟩ := s.outputs_boundary
  exact h.congr s.mem_boundary h1 h2 hout

/-- An instruction that starts from the bus invariant ends in the invariant (R30, R84, R353). -/
theorem inv_of_runInstr {s t : State} (hs : BusInv s) (hrun : s.run = .running) (h : runInstr s = .next t) : Inv t := by
  obtain ⟨i, u, v, hfetch, hexec, rfl⟩ := runInstr_next h
  obtain ⟨op, hop, hu⟩ : ∃ op, (operandBytes op).isSome = true ∧ ∃ pc, u = (s.setPc pc).fetched op := by
    rcases fetchInstr_cases s with ⟨n, j, hop, hf⟩ | ⟨_, _, _, hf⟩ | ⟨_, hf⟩ | ⟨_, hf⟩ <;> rw [hf] at hfetch <;> cases hfetch
    exact ⟨s.ram s.pc, by rw [hop]; rfl, s.pc + BitVec.ofNat 16 (n + 1), rfl⟩
  obtain ⟨pc, rfl⟩ := hu
  have hdoes := exec_does hexec
  have hbus : BusInv v := hdoes.busInv (hs.congr rfl rfl rfl rfl)
  refine ⟨hbus.ramCanonical, fun a ha => ?_, fun hlag => ?_, fun hnot => ?_, ?_, hbus.outLast .out1, hbus.outLast .out2⟩
  · exact (((hdoes.mem_stores a).mp ha).resolve_right List.not_mem_nil).2
  · exact (exec_irqLag rfl hexec hlag).2
  · have hi : i = .stop ∨ i = .wait := by
      by_contra hother
      obtain ⟨h1, h2⟩ := not_or.mp hother
      exact hnot ((exec_run hexec h1 h2).trans hrun)
    rcases hi with rfl | rfl <;> cases hexec <;> exact ⟨rfl, rfl⟩
  · rw [State.ccrOpcode_lookahead, hdoes.kept.2.2]
    exact hop

/-- A hardware entry that starts from the bus invariant ends in the invariant (R345, R353). -/
theorem inv_of_enterInterrupt {s t : State} (hs : BusInv s) (h : enterInterrupt s = .next t) : Inv t := by
  obtain ⟨v, hentry, rfl⟩ := enterInterrupt_next h
  have hdoes := trapEntry_does hentry
  have hbus : BusInv v := hdoes.busInv (hs.congr rfl rfl rfl rfl)
  have hlag : v.irqLag = false := hdoes.irqLag_eq (by simp [footprint, marksWritten])
  have hrun : v.run = .running := hdoes.run_eq (by simp [footprint, marksWritten])
  refine ⟨hbus.ramCanonical, fun a ha => ?_, fun h => ?_, fun hnot => absurd hrun hnot, ?_, hbus.outLast .out1, hbus.outLast .out2⟩
  · exact (((hdoes.mem_stores a).mp ha).resolve_right List.not_mem_nil).2
  · exact absurd (hlag.symm.trans h) (by decide)
  · rw [State.ccrOpcode_lookahead, hdoes.kept.2.2, State.ccrOpcode_taken]
    decide

theorem inv_boundary {s : State} (h : Inv s) : Inv s.boundary := by
  have hbus := (busInv_of_inv h).boundary
  exact ⟨hbus.ramCanonical, by simpa using h.storesInRam, by simpa using h.lagOnlyUnmasked,
    by simpa using h.quietWhenNotRunning, by simpa using h.opcodeDefined, hbus.outLast .out1, hbus.outLast .out2⟩

/-- Settles O10: an instruction and an entry end in the invariant by what they write, and a boundary spent waiting keeps it. -/
theorem everyStepKeepsTheInvariant : Obligations.EveryStepKeepsTheInvariant := by
  intro s t hs h
  have hbus : ∀ n, BusInv (s.boundary.drew n) := fun n => (busInv_of_inv hs).boundary.congr rfl rfl rfl rfl
  rcases step_cases s with ⟨n, hrun, hstep⟩ | ⟨n, -, hstep⟩ | ⟨-, hstep⟩ | ⟨-, hstep⟩ <;> rw [hstep] at h
  · exact inv_of_runInstr (hbus n) (by simpa using hrun) h
  · exact inv_of_enterInterrupt (hbus n) h
  · cases h
    exact inv_boundary hs
  · cases h

end Sys2Proof.Machine
end

section
/-! O23, O25, O26 and O27. Reading and writing by region, and the laws of RAM (20_memory.md R64 to R74, R80; 10_state.md R35 to
R41). -/

namespace Sys2Proof.Machine

open Sys2Proof.Safety

/-! ## Bytes kept by a free value in some bits -/

/-- A free byte in the bits of a mask leaves the other bits of a byte as they were (R38; log 15). -/
theorem and_keep_or_free (x free keep fill : Byte) (h : fill &&& keep = 0#8) :
    ((x &&& keep) ||| (free &&& fill)) &&& keep = x &&& keep := by
  rw [BitVec.and_or_distrib_right, BitVec.and_assoc, BitVec.and_assoc, h, BitVec.and_self, BitVec.and_zero, BitVec.or_zero]

/-! ## RAM as a map -/

theorem Memory.get_cons_same (k : Nat) (v : Byte) (m : Memory) : Memory.get ((k, v) :: m) k = v := by simp [Memory.get]

theorem Memory.get_cons_other {k a : Nat} (v : Byte) (m : Memory) (h : k ≠ a) : Memory.get ((k, v) :: m) a = m.get a := by
  simp [Memory.get, h]

/-- An address below every entry is not listed. -/
theorem Memory.get_of_lt {m : Memory} {a : Nat} (h : ∀ c ∈ m, a < c.1) : m.get a = Memory.unlisted := by
  induction m with
  | nil => rfl
  | cons c rest ih =>
    obtain ⟨hc, hrest⟩ := List.forall_mem_cons.mp h
    rw [Memory.get_cons_other _ _ (Nat.ne_of_gt hc), ih hrest]

/-- In a rising memory that starts with an entry at `k`, every later entry is above `k`, and so above all below `k`. -/
theorem Memory.get_cons_of_lt {k a : Nat} {v : Byte} {m : Memory} (hrest : ∀ c ∈ m, k < c.1) (h : a < k) :
    Memory.get ((k, v) :: m) a = Memory.unlisted :=
  Memory.get_of_lt (List.forall_mem_cons.mpr ⟨h, fun c hc => h.trans (hrest c hc)⟩)

/-- Canonical memories are equal where they hold the same bytes. -/
theorem Memory.eq_of_get_eq {m n : Memory} (hm : m.wf = true) (hn : n.wf = true) (h : ∀ a, m.get a = n.get a) : m = n := by
  rw [Memory.wf_iff] at hm hn
  obtain ⟨hmsorted, hmcells⟩ := hm
  obtain ⟨hnsorted, hncells⟩ := hn
  induction m generalizing n with
  | nil =>
    cases n with
    | nil => rfl
    | cons d n => exact absurd ((h d.1).symm.trans rfl) (by rw [Memory.get_cons_same]; exact (hncells d List.mem_cons_self).2)
  | cons c m ih =>
    obtain ⟨k, v⟩ := c
    obtain ⟨hkm, hmrest⟩ := List.pairwise_cons.mp hmsorted
    obtain ⟨⟨-, hv⟩, hmok⟩ := List.forall_mem_cons.mp hmcells
    cases n with
    | nil => exact absurd (h k) (by rw [Memory.get_cons_same]; exact hv)
    | cons d n =>
      obtain ⟨l, w⟩ := d
      obtain ⟨hln, hnrest⟩ := List.pairwise_cons.mp hnsorted
      obtain ⟨⟨-, hw⟩, hnok⟩ := List.forall_mem_cons.mp hncells
      have hkl : k = l := by
        rcases Nat.lt_trichotomy k l with hlt | heq | hgt
        · exact absurd ((h k).trans (Memory.get_cons_of_lt hln hlt)) (by rw [Memory.get_cons_same]; exact hv)
        · exact heq
        · exact absurd ((h l).symm.trans (Memory.get_cons_of_lt hkm hgt)) (by rw [Memory.get_cons_same]; exact hw)
      subst hkl
      have hvw : v = w := by simpa only [Memory.get_cons_same] using h k
      have hrest : ∀ a, Memory.get m a = Memory.get n a := by
        intro a
        by_cases hka : k = a
        · subst hka
          rw [Memory.get_of_lt hkm, Memory.get_of_lt hln]
        · simpa only [Memory.get_cons_other _ _ hka] using h a
      rw [hvw, ih hrest hmrest hmok hnrest hnok]

/-- Two writes to different bytes commute (R80). -/
theorem Memory.set_comm {m : Memory} {a b : Nat} (x y : Byte) (hm : m.wf = true) (ha : a < 0x8000) (hb : b < 0x8000)
    (hne : a ≠ b) : (m.set a x).set b y = (m.set b y).set a x := by
  refine Memory.eq_of_get_eq (Memory.wf_set y (Memory.wf_set x hm ha) hb) (Memory.wf_set x (Memory.wf_set y hm hb) ha) fun c => ?_
  by_cases hcb : c = b
  · subst hcb
    rw [Memory.get_set_same, Memory.get_set_other _ _ (Ne.symm hne), Memory.get_set_same]
  · rw [Memory.get_set_other _ _ hcb]
    by_cases hca : c = a
    · subst hca
      rw [Memory.get_set_same, Memory.get_set_same]
    · rw [Memory.get_set_other _ _ hca, Memory.get_set_other _ _ hca, Memory.get_set_other _ _ hcb]

/-! ## The statements -/

/-- Settles O23: each address read as its region says. -/
theorem readsByRegion : Obligations.ReadsByRegion := by
  intro s
  refine ⟨fun a ha => read8_ram s (isRam_of_inRam ha), ⟨_, read8_mm (r := .irqctl) s rfl rfl, ?_⟩,
    ⟨_, read8_mm (r := .tmrctl) s rfl rfl, ?_⟩, read8_mm (r := .t1perH) s rfl rfl, read8_mm (r := .t1perL) s rfl rfl,
    read8_mm (r := .t2perH) s rfl rfl, read8_mm (r := .t2perL) s rfl rfl, ⟨_, read8_mm (r := .out1) s rfl rfl⟩,
    ⟨_, read8_mm (r := .out2) s rfl rfl⟩, read8_mm (r := .in1) s rfl rfl, read8_mm (r := .in2) s rfl rfl,
    read8_mm (r := .t1cntH) s rfl rfl, read8_mm (r := .t1cntL) s rfl rfl, read8_mm (r := .t2cntH) s rfl rfl,
    read8_mm (r := .t2cntL) s rfl rfl, fun a ha => read8_of_not_readable s ha⟩
  · exact and_keep_or_free s.dev.irqctl _ 0xF0 0x0F rfl
  · exact and_keep_or_free s.dev.tmrctl _ 0xFC 0x03 rfl

/-- A write outside RAM to a register that takes it changes the devices as the register says. -/
theorem write8_mm {a : Word} {r : MmReg} {d : Devices} (v : Byte) (s : State) (ha : params.isRam a = false)
    (hr : mmReg a = some r) (hd : s.dev.write r v = some d) : write8 a v s = .next (s.setDev d) := by
  simp [write8, ha, hr, hd]

/-- A reset bit clears a flag, written as the statement writes it. -/
theorem ite_false_eq_and_not (c b : Bool) : (if c then false else b) = (b && !c) := by cases c <;> simp

/-- Settles O25: each address written as its region says. -/
theorem writesByRegion : Obligations.WritesByRegion := by
  intro s v
  refine ⟨fun a ha => ⟨_, write8_ram v s (isRam_of_inRam ha), State.ram_storeRam_same s a v,
    fun b hb => State.ram_storeRam_other s v hb, rfl⟩, ?_, ?_, write8_mm v s (r := .t1perH) rfl rfl rfl,
    write8_mm v s (r := .t1perL) rfl rfl rfl, write8_mm v s (r := .t2perH) rfl rfl rfl, write8_mm v s (r := .t2perL) rfl rfl rfl,
    write8_mm v s (r := .out1) rfl rfl rfl, write8_mm v s (r := .out2) rfl rfl rfl, fun a h1 h2 => write8_of_input v s h1 h2,
    fun a h => write8_of_not_readable v s h⟩
  · rw [write8_mm v s (r := .irqctl) rfl rfl rfl]
    simp only [Devices.writeIrqctl, irqResets_eq, ite_false_eq_and_not]
    rfl
  · rw [write8_mm v s (r := .tmrctl) rfl rfl rfl]
    simp only [Devices.writeTmrctl, timerResets_eq]
    rfl

/-- Settles O26: a store to RAM reads back, and two stores commute as memories. -/
theorem ramKeepsWhatWasWritten : Obligations.RamKeepsWhatWasWritten := by
  refine ⟨fun a v s t ha h => ?_, fun a b x y s t u t' u' ha hb hne hwf ht hu ht' hu' => ?_⟩
  · rw [write8_ram v s (isRam_of_inRam ha)] at h
    cases h
    refine ⟨by rw [read8_ram _ (isRam_of_inRam ha), State.ram_storeRam_same], fun b hb hne => ?_⟩
    rw [read8_ram _ (isRam_of_inRam hb), State.ram_storeRam_other s v hne]
  · rw [write8_ram x _ (isRam_of_inRam ha)] at ht hu'
    rw [write8_ram y _ (isRam_of_inRam hb)] at hu ht'
    cases ht
    cases hu
    cases ht'
    cases hu'
    exact Memory.set_comm x y hwf ha hb fun e => hne (BitVec.eq_of_toNat_eq e)

/-- Settles O27: the two bytes of a word stored in RAM are at different addresses. -/
theorem wordsAreBigEndian : Obligations.WordsAreBigEndian := by
  intro a w s h0 h1
  have hne : a ≠ a + 1 := by bv_omega
  refine ⟨(s.storeRam a (hiByte w)).storeRam (a + 1) (loByte w), ?_, ?_, ?_, ?_, read16_inRam s h0 h1⟩
  · rw [write16, write8_ram _ _ (isRam_of_inRam h0), andThen_next, write8_ram _ _ (isRam_of_inRam h1)]
  · rw [read8_ram _ (isRam_of_inRam h0), State.ram_storeRam_other _ _ hne, State.ram_storeRam_same]
  · rw [read8_ram _ (isRam_of_inRam h1), State.ram_storeRam_same]
  · rw [read16_inRam _ h0 h1, State.ram_storeRam_other _ _ hne, State.ram_storeRam_same, State.ram_storeRam_same, joinBytes_hi_lo]

end Sys2Proof.Machine
end

section
/-! O28 to O32. What the flags of ADD_n and SUB_n mean, at every width, and the CCR byte (00_scope.md R14; 10_state.md R28). -/

namespace Sys2Proof.Machine

open Sys2Proof.Safety

/-! ## The CCR byte -/

/-- Each bit of the stacked CCR byte (R28). -/
theorem getLsbD_toByte (f : Ccr) (free : Byte) (j : Nat) : (f.toByte free).getLsbD j =
    if j = 5 then f.h else if j = 4 then f.i else if j = 3 then f.n else if j = 2 then f.z else if j = 1 then f.v
    else if j = 0 then f.c else free.getLsbD j := by
  simp (disch := decide) only [Ccr.toByte, params_ccrLayout, getLsbD_setBit]

theorem ofByte_toByte (f : Ccr) (free : Byte) : Ccr.ofByte (f.toByte free) = f := by
  simp only [Ccr.ofByte, params_ccrLayout, getLsbD_toByte]
  rfl

/-- Settles O28: the bits of the byte, and that its two highest are the free byte's. -/
theorem ccrByteLayout : Obligations.CcrByteLayout := by
  intro f free
  refine ⟨⟨getLsbD_toByte f free 5, getLsbD_toByte f free 4, getLsbD_toByte f free 3, getLsbD_toByte f free 2,
    getLsbD_toByte f free 1, getLsbD_toByte f free 0, ?_⟩, ofByte_toByte f free⟩
  ext i hi
  have hhigh : ∀ k < 6, 6 + i ≠ k := fun k hk => by omega
  simp only [BitVec.getElem_extractLsb', getLsbD_toByte]
  simp [hhigh]

/-! ## The signed value of a bit vector -/

section
variable {w : Nat}

theorem two_pow_eq_double (hw : 0 < w) : 2 ^ w = 2 * 2 ^ (w - 1) := by
  rw [← Nat.pow_succ', Nat.succ_eq_add_one, Nat.sub_one_add_one hw.ne']

/-- The sign bit, the unsigned and the signed value of a bit vector, `p` being half of 2^n. -/
theorem signed_cases {p : Nat} (hw : 0 < w) (hp : 2 ^ (w - 1) = p) (x : BitVec w) :
    (x.msb = true ∧ p ≤ x.toNat ∧ x.toInt = (x.toNat : Int) - 2 * p) ∨
    (x.msb = false ∧ x.toNat < p ∧ x.toInt = (x.toNat : Int)) := by
  rw [BitVec.msb_eq_decide, BitVec.toInt_eq_toNat_cond, two_pow_eq_double hw, hp]
  by_cases h : p ≤ x.toNat
  · refine .inl ⟨by simpa using h, h, ?_⟩
    rw [if_neg (by omega)]
    push_cast
    rfl
  · exact .inr ⟨by simpa using h, by omega, if_pos (by omega)⟩

theorem msb_iff_toInt_neg (hw : 0 < w) (x : BitVec w) : x.msb = true ↔ x.toInt < 0 := by
  have hlt : x.toNat < 2 * 2 ^ (w - 1) := two_pow_eq_double hw ▸ x.isLt
  rcases signed_cases hw rfl x with ⟨hm, hge, hi⟩ | ⟨hm, -, hi⟩
  · rw [hm, hi]; simp only [true_iff]; omega
  · rw [hm, hi]; simp

/-! ## The results as numbers -/

theorem mod_of_lt_double {n m : Nat} (h : n < 2 * m) : n % m = if m ≤ n then n - m else n := by
  split
  · next hle => rw [Nat.mod_eq_sub_mod hle, Nat.mod_eq_of_lt (by omega)]
  · next hlt => exact Nat.mod_eq_of_lt (by omega)

theorem toNat_bool_le_one (c : Bool) : c.toNat ≤ 1 := by cases c <;> decide

/-- The sum of ADD_n, less 2^n where it carries. -/
theorem toNat_addFlags (a b : BitVec w) (cin : Bool) : (addFlags a b cin).r.toNat =
    if 2 ^ w ≤ a.toNat + b.toNat + cin.toNat then a.toNat + b.toNat + cin.toNat - 2 ^ w else a.toNat + b.toNat + cin.toNat := by
  have ha := a.isLt
  have hb := b.isLt
  have hc := toNat_bool_le_one cin
  rw [addFlags, BitVec.toNat_ofNat, mod_of_lt_double (by omega)]

/-- The difference of SUB_n, with 2^n where it borrows. -/
theorem toNat_subFlags (a b : BitVec w) (bin : Bool) : ((subFlags a b bin).r.toNat : Int) =
    if (a.toNat : Int) - b.toNat - bin.toNat < 0 then (a.toNat : Int) - b.toNat - bin.toNat + (2 ^ w : Nat)
    else (a.toNat : Int) - b.toNat - bin.toNat := by
  have ha := a.isLt
  have hb := b.isLt
  have hc := toNat_bool_le_one bin
  have hpos : (0 : Int) < (2 ^ w : Nat) := by positivity
  rw [subFlags, BitVec.toNat_ofInt, Int.toNat_of_nonneg (Int.emod_nonneg _ hpos.ne')]
  split
  · rw [← Int.add_emod_right, Int.emod_eq_of_lt (by omega) (by omega)]
  · rw [Int.emod_eq_of_lt (by omega) (by omega)]

/-! ## Overflow -/

/-- V of ADD_n is overflow of the exact signed sum (R14). -/
theorem addFlags_v_iff (hw : 0 < w) (a b : BitVec w) (cin : Bool) : (addFlags a b cin).v = true ↔
    a.toInt + b.toInt + cin.toNat < -2 ^ (w - 1) ∨ 2 ^ (w - 1) ≤ a.toInt + b.toInt + cin.toNat := by
  obtain ⟨p, hp⟩ : ∃ p, 2 ^ (w - 1) = p := ⟨_, rfl⟩
  have hcast : (2 ^ (w - 1) : Int) = p := by exact_mod_cast hp
  have hr := toNat_addFlags a b cin
  have hcin := toNat_bool_le_one cin
  have hv : (addFlags a b cin).v = (a.msb == b.msb && (addFlags a b cin).r.msb != a.msb) := rfl
  have ha := a.isLt
  have hb := b.isLt
  rw [two_pow_eq_double hw, hp] at hr ha hb
  rw [hv, hcast]
  split at hr <;>
    rcases signed_cases hw hp a with ⟨hma, hna, hia⟩ | ⟨hma, hna, hia⟩ <;>
    rcases signed_cases hw hp b with ⟨hmb, hnb, hib⟩ | ⟨hmb, hnb, hib⟩ <;>
    rcases signed_cases hw hp (addFlags a b cin).r with ⟨hmr, hnr, -⟩ | ⟨hmr, hnr, -⟩ <;>
    rw [hma, hmb, hmr, hia, hib] <;> simp <;> omega

/-- V of SUB_n is overflow of the exact signed difference (R14). -/
theorem subFlags_v_iff (hw : 0 < w) (a b : BitVec w) (bin : Bool) : (subFlags a b bin).v = true ↔
    a.toInt - b.toInt - bin.toNat < -2 ^ (w - 1) ∨ 2 ^ (w - 1) ≤ a.toInt - b.toInt - bin.toNat := by
  obtain ⟨p, hp⟩ : ∃ p, 2 ^ (w - 1) = p := ⟨_, rfl⟩
  have hcast : (2 ^ (w - 1) : Int) = p := by exact_mod_cast hp
  have hr := toNat_subFlags a b bin
  have hbin := toNat_bool_le_one bin
  have hv : (subFlags a b bin).v = (a.msb != b.msb && (subFlags a b bin).r.msb != a.msb) := rfl
  have ha := a.isLt
  have hb := b.isLt
  rw [two_pow_eq_double hw, hp] at hr ha hb
  rw [hv, hcast]
  split at hr <;>
    rcases signed_cases hw hp a with ⟨hma, hna, hia⟩ | ⟨hma, hna, hia⟩ <;>
    rcases signed_cases hw hp b with ⟨hmb, hnb, hib⟩ | ⟨hmb, hnb, hib⟩ <;>
    rcases signed_cases hw hp (subFlags a b bin).r with ⟨hmr, hnr, -⟩ | ⟨hmr, hnr, -⟩ <;>
    rw [hma, hmb, hmr, hia, hib] <;> simp <;> omega

/-- C of SUB_n is the borrow (R14). -/
theorem subFlags_c_iff (a b : BitVec w) (bin : Bool) : (subFlags a b bin).c = true ↔ a.toNat < b.toNat + bin.toNat := by
  simp only [subFlags, decide_eq_true_eq]
  omega

/-- What SUB_n takes away, ADD_n gives back. -/
theorem addFlags_subFlags (a b : BitVec w) (bin : Bool) : (addFlags (subFlags a b bin).r b bin).r = a := by
  apply BitVec.eq_of_toNat_eq
  have hr := toNat_subFlags a b bin
  have ha := a.isLt
  have hb := b.isLt
  have hlt := (subFlags a b bin).r.isLt
  rw [toNat_addFlags]
  split at hr <;> split <;> omega

end

/-! ## The statements on ADD_n and SUB_n -/

/-- Settles O29: clause by clause. -/
theorem addFlagsMeanCarryAndOverflow : Obligations.AddFlagsMeanCarryAndOverflow :=
  fun _ a b cin hw => ⟨BitVec.toNat_ofNat _ _, decide_eq_true_iff, addFlags_v_iff hw a b cin, msb_iff_toInt_neg hw _,
    decide_eq_true_iff⟩

/-- Settles O30: clause by clause. -/
theorem subFlagsMeanBorrowAndOverflow : Obligations.SubFlagsMeanBorrowAndOverflow :=
  fun _ a b bin hw => ⟨addFlags_subFlags a b bin, subFlags_c_iff a b bin, subFlags_v_iff hw a b bin, msb_iff_toInt_neg hw _,
    decide_eq_true_iff⟩

end Sys2Proof.Machine
end

section
/-! O31 and O32. What the comparing branches test after CMPA (41_branches.md, Summary), and word arithmetic as a chain of byte
arithmetic (45_regmem_8bit.md R282, R288; 46_regmem_16bit_subroutine.md R321, R323). -/

namespace Sys2Proof.Machine

open Sys2Proof.Safety

/-! ## Flags of a difference without a borrow in -/

section
variable {w : Nat}

theorem subFlags_c_false_iff (a b : BitVec w) : (subFlags a b false).c = true ↔ a.toNat < b.toNat := by
  simpa using subFlags_c_iff a b false

theorem subFlags_z_iff (a b : BitVec w) : (subFlags a b false).z = true ↔ a = b := by
  have hr := toNat_subFlags a b false
  have ha := a.isLt
  have hb := b.isLt
  have hz : (subFlags a b false).z = true ↔ (subFlags a b false).r.toNat = 0 := by
    rw [show (subFlags a b false).z = decide ((subFlags a b false).r = 0) from rfl, decide_eq_true_iff]
    exact BitVec.toNat_inj.symm.trans (by simp)
  have hab : a = b ↔ a.toNat = b.toNat := BitVec.toNat_inj.symm
  rw [Bool.toNat_false] at hr
  rw [hz, hab]
  split at hr <;> omega

/-- N differs from V exactly if the first operand is less as a signed number. -/
theorem subFlags_n_xor_v_iff (hw : 0 < w) (a b : BitVec w) :
    xor (subFlags a b false).n (subFlags a b false).v = true ↔ a.toInt < b.toInt := by
  obtain ⟨p, hp⟩ : ∃ p, 2 ^ (w - 1) = p := ⟨_, rfl⟩
  have hr := toNat_subFlags a b false
  have hn : (subFlags a b false).n = (subFlags a b false).r.msb := rfl
  have hv : (subFlags a b false).v = (a.msb != b.msb && (subFlags a b false).r.msb != a.msb) := rfl
  have ha := a.isLt
  have hb := b.isLt
  rw [two_pow_eq_double hw, hp] at hr ha hb
  rw [Bool.toNat_false] at hr
  rw [hn, hv]
  split at hr <;>
    rcases signed_cases hw hp a with ⟨hma, hna, hia⟩ | ⟨hma, hna, hia⟩ <;>
    rcases signed_cases hw hp b with ⟨hmb, hnb, hib⟩ | ⟨hmb, hnb, hib⟩ <;>
    rcases signed_cases hw hp (subFlags a b false).r with ⟨hmr, hnr, -⟩ | ⟨hmr, hnr, -⟩ <;>
    rw [hma, hmb, hmr, hia, hib] <;> simp <;> omega

/-- The result of SUB_n without a borrow in is the difference of bit vectors. -/
@[simp] theorem subFlags_false_r (a b : BitVec w) : (subFlags a b false).r = a - b := by
  have hback : (subFlags a b false).r + b = a := (addFlags_false_r _ _).symm.trans (addFlags_subFlags a b false)
  calc (subFlags a b false).r = (subFlags a b false).r + b - b := (BitVec.add_sub_cancel _ _).symm
    _ = a - b := by rw [hback]

end

/-! ## The comparing branches -/

theorem branchesIf_bgt : BranchesIf .bgt 0x1E (fun f => !(f.z || xor f.n f.v)) := fun _ => ⟨rfl, fun _ => rfl⟩

/-- A branch whose condition holds on the flags exactly if `P` does goes to its target exactly if `P` holds. -/
theorem BranchesIf.exec_eq {i : Byte → Instr} {op : Byte} {cond : Ccr → Bool} (h : BranchesIf i op cond) (rel : Byte) (t : State)
    {P : Prop} [Decidable P] (hP : cond t.ccr = true ↔ P) :
    exec (i rel) t = .next (if P then { t with pc := t.pc + rel.signExtend 16 } else t) := by
  by_cases hp : P
  · rw [if_pos hp, (h rel).2, hP.mpr hp, branchIf_true]
  · rw [if_neg hp, (h rel).2, Bool.eq_false_iff.mpr (mt hP.mp hp), branchIf_false]

theorem exec_cmpaImm (m : Byte) (s : State) : exec (.cmpaImm m) s = .next (s.setCcr (s.ccr.arith (subFlags s.a m false))) := rfl

/-- Settles O31: the flags of CMPA read as unsigned and signed order and equality. -/
theorem branchesAfterCompareMeanTheRelation : Obligations.BranchesAfterCompareMeanTheRelation := by
  intro s m rel
  refine ⟨_, exec_cmpaImm m s, ?_⟩
  have hc := subFlags_c_false_iff s.a m
  have hz := subFlags_z_iff s.a m
  have hnv := subFlags_n_xor_v_iff (by decide) s.a m
  have heq : s.a = m ↔ s.a.toNat = m.toNat := BitVec.toNat_inj.symm
  have heqInt : s.a = m ↔ s.a.toInt = m.toInt := BitVec.toInt_inj.symm
  generalize subFlags s.a m false = o at hc hz hnv
  have hnot : ∀ {c : Bool} {P Q : Prop}, (c = true ↔ P) → (¬P ↔ Q) → ((!c) = true ↔ Q) := fun hP hQ => by
    rw [Bool.not_eq_true', ← Bool.not_eq_true, hP, hQ]
  have hor : ∀ {c d : Bool} {P Q R : Prop}, (c = true ↔ P) → (d = true ↔ Q) → (P ∨ Q ↔ R) → ((c || d) = true ↔ R) :=
    fun hP hQ hR => by rw [Bool.or_eq_true, hP, hQ, hR]
  have hls : (o.c || o.z) = true ↔ s.a.toNat ≤ m.toNat := hor hc (hz.trans heq) Nat.le_iff_lt_or_eq.symm
  have hle : (o.z || xor o.n o.v) = true ↔ s.a.toInt ≤ m.toInt := hor (hz.trans heqInt) hnv (by omega)
  exact ⟨branchesIf_bhi.exec_eq rel _ (hnot hls Nat.not_le), branchesIf_bls.exec_eq rel _ hls,
    branchesIf_bcc.exec_eq rel _ (hnot hc Nat.not_lt), branchesIf_bcs.exec_eq rel _ hc,
    branchesIf_bne.exec_eq rel _ (hnot hz Iff.rfl), branchesIf_beq.exec_eq rel _ hz,
    branchesIf_bge.exec_eq rel _ (hnot hnv Int.not_lt), branchesIf_blt.exec_eq rel _ hnv,
    branchesIf_bgt.exec_eq rel _ (hnot hle Int.not_le), branchesIf_ble.exec_eq rel _ hle⟩

/-! ## Words as pairs of bytes -/

theorem toNat_joinBytes (h l : Byte) : (joinBytes h l).toNat = 256 * h.toNat + l.toNat := by
  rw [joinBytes, BitVec.toNat_append, ← Nat.shiftLeft_add_eq_or_of_lt l.isLt, Nat.shiftLeft_eq]
  omega

theorem msb_joinBytes (h l : Byte) : (joinBytes h l).msb = h.msb := by
  rw [BitVec.msb_eq_decide, BitVec.msb_eq_decide, toNat_joinBytes]
  have := l.isLt
  exact decide_eq_decide.mpr (by omega)

/-- Adding the low bytes, then the high ones with the carry, adds the words. -/
theorem addFlags_joinBytes (a b h l : Byte) :
    let lo := addFlags b l false
    let hi := addFlags a h lo.c
    let word := addFlags (joinBytes a b) (joinBytes h l) false
    joinBytes hi.r lo.r = word.r ∧ hi.c = word.c ∧ hi.v = word.v ∧ hi.n = word.n := by
  intro lo hi word
  have hcarry : lo.c.toNat = if 256 ≤ b.toNat + l.toNat then 1 else 0 := by
    simp only [lo, addFlags, Bool.toNat_false]
    split <;> simp_all
  have hlo : lo.r.toNat = _ := toNat_addFlags b l false
  have hhi : hi.r.toNat = _ := toNat_addFlags a h lo.c
  have hword : word.r.toNat = _ := toNat_addFlags (joinBytes a b) (joinBytes h l) false
  rw [toNat_joinBytes, toNat_joinBytes] at hword
  rw [Bool.toNat_false] at hlo hword
  have hb := b.isLt
  have hl := l.isLt
  have hr : joinBytes hi.r lo.r = word.r := by
    apply BitVec.eq_of_toNat_eq
    rw [toNat_joinBytes, hword, hlo, hhi, hcarry]
    split_ifs <;> omega
  have hc : hi.c = word.c := by
    refine decide_eq_decide.mpr ?_
    rw [toNat_joinBytes, toNat_joinBytes, hcarry, Bool.toNat_false]
    split_ifs <;> omega
  have hn : hi.n = word.n := by
    rw [show hi.n = hi.r.msb from rfl, show word.n = word.r.msb from rfl, ← hr, msb_joinBytes]
  have hv : hi.v = word.v := by
    rw [show hi.v = (a.msb == h.msb && hi.r.msb != a.msb) from rfl,
      show word.v = ((joinBytes a b).msb == (joinBytes h l).msb && word.r.msb != (joinBytes a b).msb) from rfl, ← hr]
    simp only [msb_joinBytes]
  exact ⟨hr, hc, hv, hn⟩

/-- Subtracting the low bytes, then the high ones with the borrow, subtracts the words. -/
theorem subFlags_joinBytes (a b h l : Byte) :
    let lo := subFlags b l false
    let hi := subFlags a h lo.c
    let word := subFlags (joinBytes a b) (joinBytes h l) false
    joinBytes hi.r lo.r = word.r ∧ hi.c = word.c ∧ hi.v = word.v ∧ hi.n = word.n := by
  intro lo hi word
  have hborrow : lo.c.toNat = if b.toNat < l.toNat then 1 else 0 := by
    have hlo := subFlags_c_false_iff b l
    split
    · next hlt => rw [show lo.c = true from hlo.mpr hlt]; rfl
    · next hge => rw [show lo.c = false from Bool.eq_false_iff.mpr (mt hlo.mp hge)]; rfl
  have hlo : (lo.r.toNat : Int) = _ := toNat_subFlags b l false
  have hhi : (hi.r.toNat : Int) = _ := toNat_subFlags a h lo.c
  have hword : (word.r.toNat : Int) = _ := toNat_subFlags (joinBytes a b) (joinBytes h l) false
  rw [toNat_joinBytes, toNat_joinBytes] at hword
  rw [Bool.toNat_false] at hlo hword
  rw [hborrow] at hhi
  have hb := b.isLt
  have hl := l.isLt
  have hr : joinBytes hi.r lo.r = word.r := by
    apply BitVec.eq_of_toNat_eq
    rw [toNat_joinBytes]
    split_ifs at hlo hhi hword <;> omega
  have hc : hi.c = word.c := by
    have hhic : hi.c = true ↔ a.toNat < h.toNat + lo.c.toNat := subFlags_c_iff a h lo.c
    have hwordc : word.c = true ↔ _ := subFlags_c_false_iff (joinBytes a b) (joinBytes h l)
    rw [Bool.eq_iff_iff, hhic, hwordc, toNat_joinBytes, toNat_joinBytes, hborrow]
    split_ifs <;> omega
  have hn : hi.n = word.n := by
    rw [show hi.n = hi.r.msb from rfl, show word.n = word.r.msb from rfl, ← hr, msb_joinBytes]
  have hv : hi.v = word.v := by
    rw [show hi.v = (a.msb != h.msb && hi.r.msb != a.msb) from rfl,
      show word.v = ((joinBytes a b).msb != (joinBytes h l).msb && word.r.msb != (joinBytes a b).msb) from rfl, ← hr]
    simp only [msb_joinBytes]
  exact ⟨hr, hc, hv, hn⟩

/-- Settles O32: A and B are the bytes of D, the two halves of w those of the word. -/
theorem byteChainsMatchWordArithmetic : Obligations.ByteChainsMatchWordArithmetic := by
  intro s w
  have hadd := addFlags_joinBytes s.a s.b (hiByte w) (loByte w)
  have hsub := subFlags_joinBytes s.a s.b (hiByte w) (loByte w)
  rw [joinBytes_hi_lo] at hadd hsub
  obtain ⟨hr, hc, hv, hn⟩ := hadd
  obtain ⟨kr, kc, kv, kn⟩ := hsub
  exact ⟨⟨_, _, rfl, rfl, hr.trans (addFlags_false_r _ _), hc, hv, hn⟩,
    ⟨_, _, rfl, rfl, kr.trans (subFlags_false_r _ _), kc, kv, kn⟩⟩

end Sys2Proof.Machine
end

section
/-! O13, O16, O17, O19, O20, O41 and O55. The interrupt entry and the return from it, calls and returns
(60_exceptions.md R340 to R356; 42_stack_index.md R197 to R206; 46_regmem_16bit_subroutine.md R311, R312). -/

namespace Sys2Proof.Machine

open Sys2Proof.Safety

/-! ## Writes that stop -/

theorem write8_writeStop {a : Word} (v : Byte) (s : State) (h : ¬ Writable a) : write8 a v s = writeStop a := by
  rw [← andThen_pure (write8 a v s), write8_of_not_writable v s .next h, writeStop]

theorem andThen_writeStop (a : Word) (f : State → Res State) : andThen (writeStop a) f = writeStop a := by
  unfold writeStop
  split <;> rfl

/-- Several byte writes stop at the first address that takes none. -/
theorem storeCells_stop {cells : List (Word × Byte)} {c : Word × Byte} (s : State)
    (h : cells.find? (fun d => !decide (Writable d.1)) = some c) : storeCells cells s = writeStop c.1 := by
  induction cells generalizing s with
  | nil => cases h
  | cons d rest ih =>
    rw [storeCells_cons]
    by_cases hd : Writable d.1
    · rw [write8_of_writable _ _ hd, andThen_next]
      exact ih _ (by simpa [hd] using h)
    · have hdc : d = c := by simpa [hd] using h
      rw [write8_writeStop _ _ hd, andThen_writeStop, hdc]

/-- An entry stops at the first address of its frame that takes no write (R345, R372). -/
theorem trapEntry_stop {vector a : Word} {s : State}
    (h : (frameAddrs s).find? (fun x => !decide (Writable x)) = some a) : trapEntry vector s = writeStop a := by
  rw [← map_fst_entryCells (Config.freeByte s.draws) s, List.find?_map, Option.map_eq_some_iff] at h
  obtain ⟨c, hc, rfl⟩ := h
  rw [trapEntry_eq, storeCells_stop s hc, andThen_writeStop]

/-! ## The entry of a hardware interrupt -/

/-- A recognised interrupt is put off, or entered once the free values on late recognition are drawn (R353; log 9). -/
theorem step_entered_or_putOff {s : State} (hrun : s.run ≠ .stopped) (hint : s.boundary.interruption = true) :
    PutOff s ∨ step s = enterInterrupt (s.boundary.drew (lagDraws s)) := by
  cases hr : s.run with
  | running =>
    cases hlag : s.irqLag with
    | false =>
      have hzero : lagDraws s = 0 := by simp [lagDraws, hlag]
      exact .inr (by rw [hzero]; exact step_interrupted hr hlag hint)
    | true =>
      have hone : lagDraws s = 1 := by simp [lagDraws, hr, hlag]
      rw [hone]
      exact (step_lagging hr hlag hint).imp (fun h => ⟨hr, hlag, h⟩) id
  | waiting =>
    have hzero : lagDraws s = 0 := by simp [lagDraws, hr]
    exact .inr (by rw [hzero]; exact step_waiting_interrupted hr hint)
  | stopped => exact absurd hr hrun

/-- The state on which a hardware entry begins: the boundary's, with SWI in the opcode registers (R340, R353). -/
theorem taken_boundary (s : State) (n : Nat) : ((s.boundary.drew n).drew 1).taken =
    { s.boundary with run := .running, opcode := 0x2F, ccrOpcode := 0x2F, stores := [], irqLag := false
                      draws := s.draws + n + 1 } := by
  rw [← s.draws_boundary]
  rfl

theorem frameAddrs_taken (s : State) (n : Nat) : frameAddrs ((s.boundary.drew n).drew 1).taken = frameAddrs s := by
  rw [taken_boundary]
  simp only [frameAddrs, State.sp_boundary]

/-- Every vector lies in RAM (R343). -/
theorem inRam_vector (src : Source) : InRam src.vector ∧ InRam (src.vector + 1) := by cases src <;> decide

/-- A hardware entry with its frame writable leaves the entry's state, the routine's first opcode loaded ahead (R345, R402). -/
theorem enterInterrupt_of_writable {s : State} (n : Nat) (hw : ∀ a ∈ frameAddrs s, Writable a) :
    ∃ free, enterInterrupt (s.boundary.drew n) =
      .next ((afterEntry (s.boundary.drew n).selected.vector free ((s.boundary.drew n).drew 1).taken).lookahead s.mem) := by
  obtain ⟨h0, h1⟩ := inRam_vector (s.boundary.drew n).selected
  rw [← frameAddrs_taken s n] at hw
  refine ⟨Config.freeByte ((s.boundary.drew n).drew 1).taken.draws, ?_⟩
  rw [enterInterrupt, trapEntry_of_writable h0 h1 hw, andThen_next, State.mem_drew, State.mem_boundary]

/-- Settles O13: the entry, put off or not, and where it stops. -/
theorem hardwareInterruptIsEntered : Obligations.HardwareInterruptIsEntered := by
  refine ⟨⟨rfl, rfl, rfl, rfl⟩, fun s hrun hint => ⟨fun hw => ?_, fun a ha => ?_⟩⟩ <;>
    refine (step_entered_or_putOff hrun hint).imp_right fun hstep => ?_
  · obtain ⟨free, hentry⟩ := enterInterrupt_of_writable (lagDraws s) hw
    refine ⟨_, free, asks_selected (s := s.boundary.drew (lagDraws s)) hint, ?_⟩
    rw [hstep, hentry, taken_boundary]
  · rw [← frameAddrs_taken s (lagDraws s)] at ha
    rw [hstep, enterInterrupt, trapEntry_stop ha, andThen_writeStop]

theorem exec_swi (s : State) : exec .swi s = trapEntry 0x7FF6 s := rfl

/-- SWI with its frame writable (R206, R345). -/
theorem exec_swi_of_writable {s : State} (hw : ∀ a ∈ frameAddrs s, Writable a) :
    exec .swi s = .next (afterEntry 0x7FF6 (Config.freeByte s.draws) s) :=
  (exec_swi s).trans (trapEntry_of_writable (by decide) (by decide) hw)

/-- Settles O16: SWI is the entry through its vector. -/
theorem softwareInterruptIsEntered : Obligations.SoftwareInterruptIsEntered :=
  ⟨rfl, fun _ => ⟨fun hw => ⟨_, exec_swi_of_writable hw⟩, fun _ h => trapEntry_stop h⟩⟩

/-! ## A frame in RAM -/

theorem writable_of_inRam {a : Word} (h : InRam a) : Writable a := Nat.le_trans (Nat.le_of_lt h) (by decide)

section
variable {s : State} (hlow : 5 ≤ s.sp.toNat) (hsp : InRam s.sp)
include hlow hsp

theorem inRam_of_mem_frameAddrs : ∀ a ∈ frameAddrs s, InRam a := by
  simp only [frameAddrs, List.forall_mem_cons, List.not_mem_nil, false_imp_iff, forall_const, and_true, InRam] at hsp ⊢
  bv_omega

theorem writable_of_mem_frameAddrs : ∀ a ∈ frameAddrs s, Writable a := fun a ha =>
  writable_of_inRam (inRam_of_mem_frameAddrs hlow hsp a ha)

end

theorem nodup_frameAddrs (s : State) : (frameAddrs s).Nodup := by
  simp only [frameAddrs, List.nodup_cons, List.mem_cons, List.not_mem_nil, or_false, not_false_eq_true, List.nodup_nil, and_true,
    not_or]
  refine ⟨⟨?_, ?_, ?_, ?_, ?_⟩, ⟨?_, ?_, ?_, ?_⟩, ⟨?_, ?_, ?_⟩, ⟨?_, ?_⟩, ?_⟩ <;> bv_omega

/-- Bytes written to different addresses of RAM read back. -/
theorem storeCells_ram {cells : List (Word × Byte)} {s t : State} (h : storeCells cells s = .next t)
    (hdistinct : (cells.map Prod.fst).Nodup) {c : Word × Byte} (hc : c ∈ cells) (hram : InRam c.1) : t.ram c.1 = c.2 := by
  induction cells generalizing s with
  | nil => cases hc
  | cons d rest ih =>
    obtain ⟨u, hu, hrest⟩ := andThen_eq_next.mp h
    obtain ⟨hd, hnodup⟩ := List.nodup_cons.mp hdistinct
    rcases List.mem_cons.mp hc with rfl | hmem
    · rw [write8_ram _ _ (isRam_of_inRam hram)] at hu
      cases hu
      rw [storeCells_next_ram_other hrest hd, State.ram_storeRam_same]
    · exact ih hrest hnodup hmem

theorem ram_afterEntry (vector : Word) (free : Byte) (s : State) (a : Word) :
    (afterEntry vector free s).ram a = (writeCells (entryCells free s) s).ram a := rfl

section
variable {s : State} {vector : Word} {free : Byte}

theorem storeCells_entryCells (hw : ∀ a ∈ frameAddrs s, Writable a) :
    storeCells (entryCells free s) s = .next (writeCells (entryCells free s) s) :=
  storeCells_of_writable s fun c hc => hw c.1 (map_fst_entryCells _ s ▸ List.mem_map_of_mem hc)

/-- What an entry stacks can be read back (R346). -/
theorem ram_afterEntry_of_mem (hram : ∀ a ∈ frameAddrs s, InRam a) {c : Word × Byte} (hc : c ∈ entryCells free s) :
    (afterEntry vector free s).ram c.1 = c.2 :=
  storeCells_ram (storeCells_entryCells fun a ha => writable_of_inRam (hram a ha))
    (nodup_frameAddrs s) hc (hram c.1 (map_fst_entryCells free s ▸ List.mem_map_of_mem hc))

theorem ram_afterEntry_other (hw : ∀ a ∈ frameAddrs s, Writable a) {a : Word} (ha : a ∉ frameAddrs s) :
    (afterEntry vector free s).ram a = s.ram a := by
  rw [ram_afterEntry]
  exact storeCells_next_ram_other (storeCells_entryCells hw) ha

/-- What an entry leaves but RAM, the devices, the noted stores and PC (R345). -/
theorem afterEntry_frame (hw : ∀ a ∈ frameAddrs s, Writable a) : afterEntry vector free s =
    { s with
      mem := (afterEntry vector free s).mem, dev := (afterEntry vector free s).dev
      stores := (afterEntry vector free s).stores, pc := (afterEntry vector free s).pc
      sp := s.sp - 6, ccr := { s.ccr with i := true }, draws := s.draws + 1 } := by
  have hframe := storeCells_next_frame (storeCells_entryCells (free := free) hw)
  unfold afterEntry
  rw [hframe]

theorem dev_afterEntry (hram : ∀ a ∈ frameAddrs s, InRam a) : (afterEntry vector free s).dev = s.dev := by
  have hw : ∀ a ∈ frameAddrs s, Writable a := fun a ha => writable_of_inRam (hram a ha)
  have hdev : (writeCells (entryCells free s) s).dev = s.dev := storeCells_dev_of_inRam (storeCells_entryCells hw) hram
  exact hdev

theorem pc_afterEntry (hw : ∀ a ∈ frameAddrs s, Writable a) (h0 : vector ∉ frameAddrs s) (h1 : vector + 1 ∉ frameAddrs s) :
    (afterEntry vector free s).pc = joinBytes (s.ram vector) (s.ram (vector + 1)) := by
  rw [← ram_afterEntry_other (vector := vector) (free := free) hw h0,
    ← ram_afterEntry_other (vector := vector) (free := free) hw h1]
  rfl

/-- The frame's RAM addresses are noted (R84; log 10). -/
theorem mem_stores_afterEntry (hw : ∀ a ∈ frameAddrs s, Writable a) (a : Word) :
    a ∈ (afterEntry vector free s).stores ↔ (a ∈ frameAddrs s ∧ InRam a) ∨ a ∈ s.stores :=
  mem_stores_storeCells (storeCells_entryCells (free := free) hw) a

end

/-- Settles O17: the six bytes are at different addresses of RAM. -/
theorem interruptFrameLayout : Obligations.InterruptFrameLayout := by
  intro s hlow hsp
  have hram := inRam_of_mem_frameAddrs hlow hsp
  have hw := writable_of_mem_frameAddrs hlow hsp
  have hmem : ∀ c ∈ entryCells (Config.freeByte s.draws) s, (afterEntry 0x7FF6 (Config.freeByte s.draws) s).ram c.1 = c.2 :=
    fun c hc => ram_afterEntry_of_mem hram hc
  simp only [entryCells, List.forall_mem_cons] at hmem
  obtain ⟨h0, h1, h2, h3, h4, h5, -⟩ := hmem
  refine ⟨_, Config.freeByte s.draws, exec_swi_of_writable hw, ?_⟩
  have hdev := dev_afterEntry (vector := 0x7FF6) (free := Config.freeByte s.draws) hram
  refine ⟨rfl, h0, h1, h2, h3, h4, h5, fun a ha => ram_afterEntry_other hw ha, rfl, ?_, ?_, ?_, hdev⟩ <;>
    rw [afterEntry_frame hw]

/-! ## The return -/

/-- A word pull where SP is `p`, on a state changed where reads do not look. -/
theorem pull16_offRead {g : State → State} (hg : OffRead g) {p : Word} (hp : ∀ t, (g t).sp = p) (s : State) :
    pull16 (g s) = andThen (read8 (p + 1) s) fun h => andThen (read8 (p + 2) h.2) fun l =>
      .next (joinBytes h.1 l.1, (g l.2).setSp (p + 2)) := by
  simp only [pull16_eq_read8, hg.read8, hp, andThen_assoc, andThen_next]

/-- A return reads the six bytes above SP, the lowest one holding the flags (R204, R346). -/
theorem trapReturn_eq (s : State) : trapReturn s =
    andThen (read8 (s.sp + 1) s) fun c => andThen (read8 (s.sp + 2) c.2) fun x =>
    andThen (read8 (s.sp + 3) x.2) fun ixh => andThen (read8 (s.sp + 4) ixh.2) fun ixl =>
    andThen (read8 (s.sp + 5) ixl.2) fun pch => andThen (read8 (s.sp + 6) pch.2) fun pcl =>
    .next { pcl.2 with
      ccr := Ccr.ofByte c.1, a := x.1, ix := joinBytes ixh.1 ixl.1, pc := joinBytes pch.1 pcl.1, sp := s.sp + 6
      irqLag := !(Ccr.ofByte c.1).i } := by
  have h3 : s.sp + 2 + 1 = s.sp + 3 := by bv_omega
  have h4 : s.sp + 2 + 2 = s.sp + 4 := by bv_omega
  have h5 : s.sp + 4 + 1 = s.sp + 5 := by bv_omega
  have h6 : s.sp + 4 + 2 = s.sp + 6 := by bv_omega
  have hsecond : ∀ (c : Ccr) (x : Byte) (t : State), pull16 (((t.setSp (s.sp + 2)).setCcr c).setA x) = _ := fun c x =>
    pull16_offRead (p := s.sp + 2) (g := fun t => ((t.setSp (s.sp + 2)).setCcr c).setA x)
      ⟨fun _ => rfl, fun _ => rfl, fun _ => rfl, fun _ _ => rfl⟩ fun _ => rfl
  have hthird : ∀ (c : Ccr) (x : Byte) (w : Word) (t : State),
      pull16 (((((t.setSp (s.sp + 2)).setCcr c).setA x).setSp (s.sp + 4)).setIx w) = _ := fun c x w =>
    pull16_offRead (p := s.sp + 4) (g := fun t => ((((t.setSp (s.sp + 2)).setCcr c).setA x).setSp (s.sp + 4)).setIx w)
      ⟨fun _ => rfl, fun _ => rfl, fun _ => rfl, fun _ _ => rfl⟩ fun _ => rfl
  simp only [trapReturn, pull16_eq_read8 s, andThen_assoc, andThen_next, hiByte_joinBytes, loByte_joinBytes, hsecond, hthird,
    h3, h4, h5, h6]
  rfl

/-- Settles O41: six reads, the earliest of which that cannot be done stops the return. -/
theorem rtiResult : Obligations.RtiResult := by
  refine ⟨rfl, fun s => ⟨fun hread => ?_, fun k hk1 hk6 hread hnot => ?_⟩⟩
  · have hat : ∀ (w : Word) (k : Nat), w = BitVec.ofNat 16 k → 1 ≤ k → k ≤ 6 → ∀ t,
        read8 (s.sp + w) t = .next (readOf (s.sp + w) t) :=
      fun w k hw h1 h6 t => read8_of_readable t (hw ▸ hread k h1 h6)
    refine ⟨_, _, _, _, _, _, _, rfl, ?_⟩
    rw [exec_rti, trapReturn_eq]
    simp (disch := decide) only [hat 1 1 rfl, hat 2 2 rfl, hat 3 3 rfl, hat 4 4 rfl, hat 5 5 rfl, hat 6 6 rfl, andThen_next]
  · have hat : ∀ (w : Word) (j : Nat), w = BitVec.ofNat 16 j → 1 ≤ j → j < k → ∀ t,
        read8 (s.sp + w) t = .next (readOf (s.sp + w) t) :=
      fun w j hw h1 hj t => read8_of_readable t (hw ▸ hread j h1 hj)
    have hstop : ∀ w : Word, w = BitVec.ofNat 16 k → ∀ t,
        read8 (s.sp + w) t = .fault (.invalidAccess (s.sp + BitVec.ofNat 16 k)) :=
      fun w hw t => by rw [hw, read8_of_not_readable t hnot]
    rw [exec_rti, trapReturn_eq]
    interval_cases k <;>
      simp (disch := decide) only [hat 1 1 rfl, hat 2 2 rfl, hat 3 3 rfl, hat 4 4 rfl, hat 5 5 rfl, hstop 1, hstop 2, hstop 3,
        hstop 4, hstop 5, hstop 6, andThen_next, andThen_fault]

/-! ## Entry and return -/

/-- A return with its six bytes in RAM. -/
theorem trapReturn_inRam {s : State} (h1 : InRam (s.sp + 1)) (h2 : InRam (s.sp + 2)) (h3 : InRam (s.sp + 3))
    (h4 : InRam (s.sp + 4)) (h5 : InRam (s.sp + 5)) (h6 : InRam (s.sp + 6)) : trapReturn s = .next { s with
      ccr := Ccr.ofByte (s.ram (s.sp + 1)), a := s.ram (s.sp + 2)
      ix := joinBytes (s.ram (s.sp + 3)) (s.ram (s.sp + 4)), pc := joinBytes (s.ram (s.sp + 5)) (s.ram (s.sp + 6))
      sp := s.sp + 6, irqLag := !(Ccr.ofByte (s.ram (s.sp + 1))).i } := by
  simp only [trapReturn_eq, read8_ram _ (isRam_of_inRam h1), read8_ram _ (isRam_of_inRam h2), read8_ram _ (isRam_of_inRam h3),
    read8_ram _ (isRam_of_inRam h4), read8_ram _ (isRam_of_inRam h5), read8_ram _ (isRam_of_inRam h6), andThen_next]

/-- A return from the frame an entry on `s` stacked gives back what it stacked, wherever else the state went (R204, R356). -/
theorem trapReturn_of_frame {s t : State} {free : Byte} (hram : ∀ a ∈ frameAddrs s, InRam a) (hsp : t.sp = s.sp - 6)
    (hframe : ∀ c ∈ entryCells free s, t.ram c.1 = c.2) :
    trapReturn t =
      .next { t with ccr := s.ccr, a := s.a, ix := s.ix, pc := s.pc, sp := s.sp, irqLag := !s.ccr.i } := by
  have e1 : s.sp - 6 + 1 = s.sp - 5 := by bv_omega
  have e2 : s.sp - 6 + 2 = s.sp - 4 := by bv_omega
  have e3 : s.sp - 6 + 3 = s.sp - 3 := by bv_omega
  have e4 : s.sp - 6 + 4 = s.sp - 2 := by bv_omega
  have e5 : s.sp - 6 + 5 = s.sp - 1 := by bv_omega
  have e6 : s.sp - 6 + 6 = s.sp := by bv_omega
  simp only [frameAddrs, List.forall_mem_cons] at hram
  obtain ⟨h0, h1, h2, h3, h4, h5, -⟩ := hram
  simp only [entryCells, List.forall_mem_cons] at hframe
  obtain ⟨k0, k1, k2, k3, k4, k5, -⟩ := hframe
  rw [trapReturn_inRam (by rwa [hsp, e1]) (by rwa [hsp, e2]) (by rwa [hsp, e3]) (by rwa [hsp, e4]) (by rwa [hsp, e5])
    (by rwa [hsp, e6])]
  simp only [hsp, e1, e2, e3, e4, e5, e6, k0, k1, k2, k3, k4, k5, ofByte_toByte, joinBytes_hi_lo]

/-- Settles O19: SWI leaves the frame RTI returns from. -/
theorem rtiUndoesSwi : Obligations.RtiUndoesSwi := by
  intro s hlow hsp
  have hram := inRam_of_mem_frameAddrs hlow hsp
  have hw := writable_of_mem_frameAddrs hlow hsp
  refine ⟨_, _, exec_swi_of_writable hw,
    (exec_rti _).trans (trapReturn_of_frame hram rfl fun c hc => ram_afterEntry_of_mem hram hc), rfl, ?_, rfl, rfl, rfl, rfl⟩
  rw [afterEntry_frame hw]

/-- A step at RTI with interrupts masked is the return. -/
theorem step_rti {t : State} (hrun : t.run = .running) (hmask : t.ccr.i = true) (hst : t.pc ∉ t.stores) (hpc : InRam t.pc)
    (hop : t.ram t.pc = 0x2D) :
    step t = andThen (trapReturn (readyToExecute 1 t.boundary)) fun u => .next (u.lookahead t.mem) := by
  have hcode : codeAt t 1 = [0x2D] := by simpa [codeAt] using hop
  have hin : ∀ k < 1, InRam (t.pc + BitVec.ofNat 16 k) := fun k hk => by
    obtain rfl : k = 0 := Nat.lt_one_iff.mp hk
    simpa using hpc
  exact stepRunsTheDecodedInstruction t 1 .rti hrun (interruption_of_masked (by simpa using hmask)) hst hin (hcode ▸ rfl)

/-- A routine of one RTI, entered on `e`: the step leaves `e`'s registers and RAM outside the frame, whatever the entry loaded
ahead. -/
theorem step_rti_afterEntry {e : State} {vector : Word} {free : Byte} (old : Memory) (hram : ∀ a ∈ frameAddrs e, InRam a)
    (hrun : e.run = .running) (hst : e.stores = []) (hpc : InRam (afterEntry vector free e).pc)
    (hclear : (afterEntry vector free e).pc ∉ frameAddrs e) (hop : e.ram (afterEntry vector free e).pc = 0x2D) :
    ∃ u, step ((afterEntry vector free e).lookahead old) = .next u ∧
      u.a = e.a ∧ u.b = e.b ∧ u.ix = e.ix ∧ u.sp = e.sp ∧ u.pc = e.pc ∧ u.ccr = e.ccr ∧
      ∀ a, a ∉ frameAddrs e → u.ram a = e.ram a := by
  have hw : ∀ a ∈ frameAddrs e, Writable a := fun a ha => writable_of_inRam (hram a ha)
  have hframe := afterEntry_frame (vector := vector) (free := free) hw
  have hkept : ∀ a, a ∉ frameAddrs e → (afterEntry vector free e).ram a = e.ram a := fun a ha => ram_afterEntry_other hw ha
  have hcells : ∀ c ∈ entryCells free e, (afterEntry vector free e).ram c.1 = c.2 := fun c hc => ram_afterEntry_of_mem hram hc
  have hnoted : (afterEntry vector free e).pc ∉ (afterEntry vector free e).stores := by
    rw [mem_stores_afterEntry hw, hst]
    exact not_or.mpr ⟨fun h => hclear h.1, List.not_mem_nil⟩
  rw [← hkept _ hclear] at hop
  generalize afterEntry vector free e = v at *
  have hrunv : v.run = .running := by rw [hframe]; exact hrun
  have hmask : v.ccr.i = true := by rw [hframe]
  have hb : v.b = e.b := by rw [hframe]
  have hsp : v.sp = e.sp - 6 := by rw [hframe]
  obtain ⟨r, hr⟩ : ∃ r, readyToExecute 1 (v.lookahead old).boundary = r := ⟨_, rfl⟩
  have hrmem : r.mem = v.mem := by simp [← hr, readyToExecute]
  have hrram : ∀ a, r.ram a = v.ram a := fun a => congrArg (Memory.get · a.toNat) hrmem
  have hret := trapReturn_of_frame (t := r) hram (by simp [← hr, readyToExecute, hsp]) fun c hc => (hrram c.1).trans (hcells c hc)
  have hstep := step_rti (t := v.lookahead old) hrunv hmask hnoted hpc hop
  rw [hr, hret, andThen_next] at hstep
  refine ⟨_, hstep, by simp, ?_, by simp, by simp, by simp, by simp, fun a ha => (hrram a).trans (hkept a ha)⟩
  simp [← hr, readyToExecute, hb]

/-- No vector of a source lies in a frame below it. -/
theorem vector_not_mem_frameAddrs {s : State} (src : Source) (hlow : 5 ≤ s.sp.toNat) (hhigh : s.sp.toNat < 0x7FF8) :
    src.vector ∉ frameAddrs s ∧ src.vector + 1 ∉ frameAddrs s := by
  have hbelow : ∀ a ∈ frameAddrs s, a.toNat < 0x7FF8 := by
    simp only [frameAddrs, List.forall_mem_cons, List.not_mem_nil, false_imp_iff, forall_const, and_true]
    bv_omega
  have habove : 0x7FF8 ≤ src.vector.toNat ∧ 0x7FF8 ≤ (src.vector + 1).toNat := by cases src <;> decide
  exact ⟨fun h => absurd (hbelow _ h) (not_lt.mpr habove.1), fun h => absurd (hbelow _ h) (not_lt.mpr habove.2)⟩

/-- Settles O20: the entry leaves RTI's frame and masks the next recognition, and RTI is what the routine's one byte is. -/
theorem interruptAndReturnAreTransparent : Obligations.InterruptAndReturnAreTransparent := by
  intro s h hrun hlag hint hlow hhigh hvec hh hclear hop
  have hsp : InRam s.sp := Nat.lt_trans hhigh (by decide)
  have hasks := asks_selected (s := s.boundary.drew 0) hint
  obtain ⟨free, hentry⟩ := enterInterrupt_of_writable 0 (writable_of_mem_frameAddrs hlow hsp)
  have hstep : step s = _ := (step_interrupted hrun hlag hint).trans hentry
  have hframe := frameAddrs_taken s 0
  obtain ⟨e, he⟩ : ∃ e, ((s.boundary.drew 0).drew 1).taken = e := ⟨_, rfl⟩
  have heram : ∀ a, e.ram a = s.ram a := fun a => by
    simp [← he, State.ram]
  rw [he] at hstep hframe
  generalize (s.boundary.drew 0).selected = src at hasks hstep
  have hram : ∀ a ∈ frameAddrs e, InRam a := hframe ▸ inRam_of_mem_frameAddrs hlow hsp
  have hw : ∀ a ∈ frameAddrs e, Writable a := hframe ▸ writable_of_mem_frameAddrs hlow hsp
  obtain ⟨h0, h1⟩ := vector_not_mem_frameAddrs src hlow hhigh
  rw [← hframe] at h0 h1
  have hpc : (afterEntry src.vector free e).pc = h := by
    rw [pc_afterEntry hw h0 h1, heram, heram]
    exact hvec src hasks
  obtain ⟨u, hu, ha, hb, hix, husp, hupc, hccr, huram⟩ := step_rti_afterEntry (e := e) s.mem hram
    (by simp [← he]) (by simp [← he]) (by rw [hpc]; exact hh) (by rw [hpc, hframe]; exact hclear) (by rw [hpc, heram]; exact hop)
  refine ⟨_, u, hstep, hu, by simp [ha, ← he], by simp [hb, ← he], by simp [hix, ← he], by simp [husp, ← he], 
    by simp [hupc, ← he], by simp [hccr, ← he], fun a ha => (huram a (hframe ▸ ha)).trans (heram a)⟩

end Sys2Proof.Machine
end

section
/-! O55. Calls and returns, a word pushed and pulled (42_stack_index.md R197, R198, R203; 46_regmem_16bit_subroutine.md R311,
R312). -/

namespace Sys2Proof.Machine

open Sys2Proof.Safety

/-! ## Calls and returns -/

/-- A word pulled from RAM. -/
theorem pull16_inRam {s : State} (h1 : InRam (s.sp + 1)) (h2 : InRam (s.sp + 2)) :
    pull16 s = .next (joinBytes (s.ram (s.sp + 1)) (s.ram (s.sp + 2)), s.setSp (s.sp + 2)) := by
  simp only [pull16_eq_read8, read8_ram _ (isRam_of_inRam h1), read8_ram _ (isRam_of_inRam h2), andThen_next]

/-- The state after a word push to RAM (R12). -/
def State.pushed (w : Word) (s : State) : State :=
  ((s.storeRam s.sp (loByte w)).storeRam (s.sp - 1) (hiByte w)).setSp (s.sp - 2)

section
variable (w : Word) (s : State)

@[simp] theorem State.a_pushed : (s.pushed w).a = s.a := by simp [State.pushed]
@[simp] theorem State.b_pushed : (s.pushed w).b = s.b := by simp [State.pushed]
@[simp] theorem State.ix_pushed : (s.pushed w).ix = s.ix := by simp [State.pushed]
@[simp] theorem State.sp_pushed : (s.pushed w).sp = s.sp - 2 := by simp [State.pushed]
@[simp] theorem State.pc_pushed : (s.pushed w).pc = s.pc := by simp [State.pushed]
@[simp] theorem State.ccr_pushed : (s.pushed w).ccr = s.ccr := by simp [State.pushed]

end

/-- A word pulled where one was pushed is that word, and SP is where it was. -/
theorem pull16_pushed {s t : State} (w : Word) (h0 : InRam s.sp) (h1 : InRam (s.sp - 1)) (hsp : t.sp = s.sp - 2)
    (hmem : t.mem = (s.pushed w).mem) : pull16 t = .next (w, t.setSp s.sp) := by
  have e1 : s.sp - 2 + 1 = s.sp - 1 := by bv_omega
  have e2 : s.sp - 2 + 2 = s.sp := by bv_omega
  have hram : ∀ a, t.ram a = (s.pushed w).ram a := fun a => congrArg (Memory.get · a.toNat) hmem
  rw [pull16_inRam (by rwa [hsp, e1]) (by rwa [hsp, e2]), hsp, e1, e2, hram, hram]
  exact congrArg (fun x => Host.Outcome.next (x, t.setSp s.sp)) (joinBytes_ram_pushed s s.sp w)

theorem inRam_sub_one {a : Word} (hlow : 1 ≤ a.toNat) (h : InRam a) : InRam (a - 1) := by
  simp only [InRam] at h ⊢
  bv_omega

theorem exec_rts (s : State) : exec .rts s = andThen (pull16 s) fun p => .next (p.2.setPc p.1) := rfl

theorem exec_pulx (s : State) : exec .pulx s = andThen (pull16 s) fun p => .next (p.2.setIx p.1) := rfl

/-- RTS after a call, in whatever form it was made, goes back past it (R203, R312). -/
theorem rts_of_callAt {i : Instr} {target : Word} {s : State} (hi : exec i s = callAt target s) (hlow : 1 ≤ s.sp.toNat)
    (h : InRam s.sp) : ∃ t u, exec i s = .next t ∧ t.pc = target ∧ exec .rts t = .next u ∧
      u.pc = s.pc ∧ u.sp = s.sp ∧ u.a = s.a ∧ u.b = s.b ∧ u.ix = s.ix ∧ u.ccr = s.ccr := by
  have h1 := inRam_sub_one hlow h
  have hcall : exec i s = .next ((s.pushed s.pc).setPc target) := by
    rw [hi, callAt, push16_inRam _ h h1, andThen_next, State.pushed]
  have hpull := pull16_pushed (t := (s.pushed s.pc).setPc target) s.pc h h1 (by simp) (by simp)
  have hrts : exec .rts ((s.pushed s.pc).setPc target) = .next ((((s.pushed s.pc).setPc target).setSp s.sp).setPc s.pc) := by
    rw [exec_rts, hpull, andThen_next]
  exact ⟨_, _, hcall, by simp, hrts, by simp⟩

/-- Settles O55: each call is `callAt` of its target. -/
theorem returnsUndoCalls : Obligations.ReturnsUndoCalls := by
  intro s hlow h
  refine ⟨fun ad => rts_of_callAt (target := ad) rfl hlow h, fun d => rts_of_callAt (target := dirAddr d) rfl hlow h,
    fun off => rts_of_callAt (target := ixAddr off s) rfl hlow h,
    fun rel => rts_of_callAt (target := s.pc + rel.signExtend 16) rfl hlow h, ?_⟩
  have h1 := inRam_sub_one hlow h
  have hpush : exec .pshx s = .next (s.pushed s.ix) := (exec_pshx s).trans (push16_inRam _ h h1)
  have hpull : exec .pulx (s.pushed s.ix) = .next (((s.pushed s.ix).setSp s.sp).setIx s.ix) := by
    rw [exec_pulx, pull16_pushed s.ix h h1 (by simp) rfl, andThen_next]
  exact ⟨_, _, hpush, hpull, by simp⟩

end Sys2Proof.Machine
end

section
/-! SUPPORT. From the shared operation an instruction is to what the statements say of its operand forms (30_encoding.md R104 to
R111; 43_read_modify_write.md R215; 45_regmem_8bit.md R280; 46_regmem_16bit_subroutine.md R310). -/

namespace Sys2Proof.Machine

open Sys2Proof.Safety

/-! ## Instructions that load -/

section
variable {row : Byte} {f : Byte → State → State} {imm dir ix : Byte → Instr} {ext : Word → Instr} {ixp : Option Byte → Instr}

theorem dir8_of_load8 {op : Byte} (h : ∀ d, encode (dir d) = [op, d] ∧ ∀ s, exec (dir d) s = load8 (dirAddr d) f s) :
    Dir8 dir op f := fun d => by
  obtain ⟨henc, hexec⟩ := h d
  exact ⟨henc, fun s => (hexec s).trans (load8_inRam f s (inRam_dirAddr d).1)⟩

/-- The four forms on B from one operation on a byte. -/
theorem onB_of_load8 (himm : Imm8 imm (0xC0 + row) f)
    (hdir : ∀ d, encode (dir d) = [0xD0 + row, d] ∧ ∀ s, exec (dir d) s = load8 (dirAddr d) f s)
    (hix : ∀ off, encode (ix off) = [0xE0 + row, off] ∧ ∀ s, exec (ix off) s = load8 (ixAddr off s) f s)
    (hext : ∀ ad, encode (ext ad) = [0xF0 + row, hiByte ad, loByte ad] ∧ ∀ s, exec (ext ad) s = load8 ad f s) :
    OnB imm dir ix ext row f :=
  ⟨himm, dir8_of_load8 hdir, fun off => (hix off).imp_right loads8_of_load8, fun ad => (hext ad).imp_right loads8_of_load8⟩

/-- The five forms on A from one operation on a byte. -/
theorem onA_of_load8 (hixp : encode (ixp none) = [0x70 + row] ∧ ∀ s, exec (ixp none) s = postInc 1 (load8 s.ix f s))
    (himm : Imm8 imm (0x80 + row) f)
    (hdir : ∀ d, encode (dir d) = [0x90 + row, d] ∧ ∀ s, exec (dir d) s = load8 (dirAddr d) f s)
    (hix : ∀ off, encode (ix off) = [0xA0 + row, off] ∧ ∀ s, exec (ix off) s = load8 (ixAddr off s) f s)
    (hext : ∀ ad, encode (ext ad) = [0xB0 + row, hiByte ad, loByte ad] ∧ ∀ s, exec (ext ad) s = load8 ad f s) :
    OnA ixp imm dir ix ext row f :=
  ⟨hixp.imp_right fun h => loads8_of_load8 fun s => (h s).trans (postInc_load8 1 s.ix f s), himm, dir8_of_load8 hdir,
    fun off => (hix off).imp_right loads8_of_load8, fun ad => (hext ad).imp_right loads8_of_load8⟩

end

section
variable {f : Bool → Word → State → State} {g : Word → State → State}

/-- The IMM, DIR, IX and EXT forms of a 16-bit instruction from one operation on a word. -/
theorem on16_of_load16 {imm : Word → Instr} {dir ix : Byte → Instr} {ext : Word → Instr} {oImm oDir oIx oExt : Byte}
    (hg : ∀ w s, ∃ b, g w s = f b w s)
    (himm : ∀ w, encode (imm w) = [oImm, hiByte w, loByte w] ∧ ∀ s, exec (imm w) s = .next (g w s))
    (hdir : ∀ d, encode (dir d) = [oDir, d] ∧ ∀ s, exec (dir d) s = load16 (dirAddr d) g s)
    (hix : ∀ off, encode (ix off) = [oIx, off] ∧ ∀ s, exec (ix off) s = load16 (ixAddr off s) g s)
    (hext : ∀ ad, encode (ext ad) = [oExt, hiByte ad, loByte ad] ∧ ∀ s, exec (ext ad) s = load16 ad g s) :
    On16 imm dir ix ext oImm oDir oIx oExt f := by
  have hnext : ∀ w s, ∃ b, (.next (g w s) : Res State) = .next (f b w s) := fun w s =>
    (hg w s).imp fun _ hb => congrArg Host.Outcome.next hb
  refine ⟨fun w => ⟨(himm w).1, fun s => ?_⟩, fun d => ⟨(hdir d).1, fun s => ?_⟩, 
    fun off => (hix off).imp_right fun h => loads16_of_load16 h hg, fun ad => (hext ad).imp_right fun h => loads16_of_load16 h hg⟩
  · rw [(himm w).2]
    exact hnext w s
  · obtain ⟨h0, h1⟩ := inRam_dirAddr d
    rw [(hdir d).2, load16, read16_inRam s h0 h1, andThen_next]
    exact hnext _ s

theorem ixp16_of_load16 {i : Option Byte → Instr} {op : Byte} (hg : ∀ w s, ∃ b, g w s = f b w s)
    (h : encode (i none) = [op] ∧ ∀ s, exec (i none) s = postInc 2 (load16 s.ix g s)) : Ixp16 i op f :=
  h.imp_right fun hexec => loads16_of_load16 (fun s => (hexec s).trans (postInc_load16 2 s.ix g s)) fun w s =>
    (hg w s).imp fun _ hb => congrArg (advanceIx 2) hb

end

/-! ## Instructions that modify a byte -/

/-- All four forms of a one-operand instruction from its operation. -/
theorem oneOperand_of_rmw {ia ib : Instr} {ix : Byte → Instr} {ext : Word → Instr} {row : Byte} {f : UnaryOp}
    (ha : encode ia = [0x30 + row] ∧ ∀ s, exec ia s = .next (rmwAcc .a f s))
    (hb : encode ib = [0x40 + row] ∧ ∀ s, exec ib s = .next (rmwAcc .b f s))
    (hix : ∀ off, encode (ix off) = [0x50 + row, off] ∧ ∀ s, exec (ix off) s = rmw8 (ixAddr off s) f s)
    (hext : ∀ ad, encode (ext ad) = [0x60 + row, hiByte ad, loByte ad] ∧ ∀ s, exec (ext ad) s = rmw8 ad f s) :
    OneOperand ia ib ix ext row f :=
  ⟨ha, hb, fun off => (hix off).imp_right modifies8_of_rmw8, fun ad => (hext ad).imp_right modifies8_of_rmw8⟩

/-! ## Instructions that store -/

/-- Where only RAM, the devices and the noted stores have changed since `s`, `g s` and `f` change registers alike. -/
def SameAfterWrites (g : State → State → State) (f : State → State) : Prop :=
  ∀ (s : State) (m : Memory) (d : Devices) (noted : List Word),
    g s { s with mem := m, dev := d, stores := noted } = f { s with mem := m, dev := d, stores := noted }

section
variable {g : State → State → State} {f : State → State} (hgf : SameAfterWrites g f)
include hgf

/-- Several byte writes and then a change of registers. -/
theorem stores_of_storeCells {i : Instr} {cells : State → List (Word × Byte)}
    (h : ∀ s, exec i s = andThen (storeCells (cells s) s) fun t => .next (g s t)) : Stores i cells f := by
  refine fun s => ⟨fun hw => ?_, fun c hc => by rw [h, storeCells_stop s hc, andThen_writeStop]⟩
  have hcells := storeCells_of_writable s hw
  have hframe := storeCells_next_frame hcells
  rw [h, hcells, andThen_next]
  generalize writeCells (cells s) s = t at hframe
  rw [hframe, hgf]

theorem stores_of_write8 {i : Instr} {ea : State → Word} {v : State → Byte}
    (h : ∀ s, exec i s = andThen (write8 (ea s) (v s) s) fun t => .next (g s t)) : Stores i (fun s => [(ea s, v s)]) f :=
  stores_of_storeCells hgf fun s => by rw [h, storeCells_singleton]

theorem stores_of_write16 {i : Instr} {ea : State → Word} {w : State → Word}
    (h : ∀ s, exec i s = andThen (write16 (ea s) (w s) s) fun t => .next (g s t)) :
    Stores i (fun s => wordCells (ea s) (w s)) f :=
  stores_of_storeCells hgf fun s => by rw [h, write16_eq]

section
variable {dir ix : Byte → Instr} {ext : Word → Instr} {oDir oIx oExt : Byte}

/-- The DIR, IX and EXT forms of a byte store. -/
theorem stores8_of_write8 {v : State → Byte}
    (hdir : ∀ d, encode (dir d) = [oDir, d] ∧ ∀ s, exec (dir d) s = andThen (write8 (dirAddr d) (v s) s) fun t => .next (g s t))
    (hix : ∀ off, encode (ix off) = [oIx, off] ∧
      ∀ s, exec (ix off) s = andThen (write8 (ixAddr off s) (v s) s) fun t => .next (g s t))
    (hext : ∀ ad, encode (ext ad) = [oExt, hiByte ad, loByte ad] ∧
      ∀ s, exec (ext ad) s = andThen (write8 ad (v s) s) fun t => .next (g s t)) : Stores8 dir ix ext oDir oIx oExt v f := by
  refine ⟨fun d => (hdir d).imp_right fun h s => ?_, fun off => (hix off).imp_right (stores_of_write8 hgf),
    fun ad => (hext ad).imp_right (stores_of_write8 hgf)⟩
  have hw : Writable (dirAddr d) := writable_of_inRam (inRam_dirAddr d).1
  exact (stores_of_write8 hgf h s).1 (by simpa using hw)

/-- The DIR, IX and EXT forms of a word store. -/
theorem stores16_of_write16 {w : State → Word}
    (hdir : ∀ d, encode (dir d) = [oDir, d] ∧ ∀ s, exec (dir d) s = andThen (write16 (dirAddr d) (w s) s) fun t => .next (g s t))
    (hix : ∀ off, encode (ix off) = [oIx, off] ∧
      ∀ s, exec (ix off) s = andThen (write16 (ixAddr off s) (w s) s) fun t => .next (g s t))
    (hext : ∀ ad, encode (ext ad) = [oExt, hiByte ad, loByte ad] ∧
      ∀ s, exec (ext ad) s = andThen (write16 ad (w s) s) fun t => .next (g s t)) : Stores16 dir ix ext oDir oIx oExt w f := by
  refine ⟨fun d => (hdir d).imp_right fun h s => ?_, fun off => (hix off).imp_right (stores_of_write16 hgf),
    fun ad => (hext ad).imp_right (stores_of_write16 hgf)⟩
  obtain ⟨h0, h1⟩ := inRam_dirAddr d
  exact (stores_of_write16 hgf h s).1 (by simpa [wordCells] using ⟨writable_of_inRam h0, writable_of_inRam h1⟩)

end

end

end Sys2Proof.Machine
end

section
/-! O33, O37 to O40, O44 to O54. The results of each family of instructions, form by form (40_control_inherent.md to
46_regmem_16bit_subroutine.md). -/

namespace Sys2Proof.Machine

open Sys2Proof.Safety

/-! ## Instructions without a data access -/

/-- Settles O33: each is a change of one field. -/
theorem controlInstructionResults : Obligations.ControlInstructionResults := by
  refine ⟨?_, ?_, ?_, ?_, ?_, ?_, ?_, ?_, ?_⟩ <;> exact ⟨rfl, fun _ => rfl⟩

/-- Settles O39: each is one sum or difference of SP or IX. -/
theorem indexAndStackPointerArithmetic : Obligations.IndexAndStackPointerArithmetic := by
  refine ⟨?_, ?_, ?_, ?_, ?_, ?_, fun _ => ?_, fun _ => ?_⟩ <;> exact ⟨rfl, fun _ => rfl⟩

/-- Settles O46: the flags of the operation with its result. -/
theorem accumulatorTransferAndArithmetic : Obligations.AccumulatorTransferAndArithmetic := by
  refine ⟨?_, ?_, ?_, ?_, ?_, ?_⟩ <;> exact ⟨rfl, fun _ => rfl⟩

theorem branchesIf_bil : BranchesIf .bil 0x06 (fun f => !f.i) := fun _ => ⟨rfl, fun _ => rfl⟩

theorem branchesIf_bih : BranchesIf .bih 0x07 (fun f => f.i) := fun _ => ⟨rfl, fun _ => rfl⟩

/-- Settles O37: BRN and BRA branch never and always, the others on their conditions. -/
theorem columnZeroBranchesAndBgt : Obligations.ColumnZeroBranchesAndBgt :=
  ⟨fun rel => ⟨rfl, exec_brn rel⟩, fun rel => ⟨rfl, exec_bra rel⟩, branchesIf_bil.branches_onClear,
    branchesIf_bih.branches_onSet, branchesIf_bgt.branches_onClear⟩

/-! ## Decrement and branch -/

/-- A branch passed over or taken changes PC alone. -/
theorem branchIf_eq (P : Prop) [Decidable P] (rel : Byte) (t : State) :
    branchIf (!decide P) rel t = { t with pc := if P then t.pc else t.pc + rel.signExtend 16 } := by
  by_cases h : P <;> simp [h]

/-- Settles O38: the branch is on Z of the decrement. -/
theorem decrementAndBranch : Obligations.DecrementAndBranch :=
  ⟨fun rel => ⟨rfl, fun s => congrArg Host.Outcome.next (branchIf_eq (s.a - 1 = 0) rel (rmwAcc .a decByte s))⟩,
    fun rel => ⟨rfl, fun s => congrArg Host.Outcome.next (branchIf_eq (s.b - 1 = 0) rel (rmwAcc .b decByte s))⟩⟩

/-! ## Bit tests -/

/-- The flags of a bit test, and its branch if the tested byte is not zero (R267, R268). -/
theorem branchIf_bitTest (x m tested rel : Byte) (t : State) :
    branchIf (decide (tested ≠ 0)) rel (t.setCcr (t.ccr.bitTest x m tested)) = { t with
      ccr := { t.ccr with z := decide (tested = 0), c := decide (x &&& m ≠ 0) }
      pc := if tested = 0 then t.pc else t.pc + rel.signExtend 16 } := by
  rw [decide_not, branchIf_eq]
  rfl

theorem branchSet_eq (ea : Word) (m rel : Byte) (s : State) : branchSet ea m rel s = load8 ea (fun x t => { t with
    ccr := { t.ccr with z := decide (x &&& m = 0), c := decide (x &&& m ≠ 0) }
    pc := if x &&& m = 0 then t.pc else t.pc + rel.signExtend 16 }) s := by
  simp only [branchSet, branchIf_bitTest]

theorem branchClear_eq (ea : Word) (m rel : Byte) (s : State) : branchClear ea m rel s = load8 ea (fun x t => { t with
    ccr := { t.ccr with z := decide (~~~x &&& m = 0), c := decide (x &&& m ≠ 0) }
    pc := if ~~~x &&& m = 0 then t.pc else t.pc + rel.signExtend 16 }) s := by
  simp only [branchClear, branchIf_bitTest]

/-- Settles O47: each form is one load and the bit test of the byte. -/
theorem bitTestBranches : Obligations.BitTestBranches :=
  ⟨fun _ m rel => ⟨rfl, loads8_of_load8 fun s => branchSet_eq _ m rel s⟩,
    fun _ m rel => ⟨rfl, loads8_of_load8 fun s => branchSet_eq _ m rel s⟩,
    fun _ m rel => ⟨rfl, loads8_of_load8 fun s => branchClear_eq _ m rel s⟩,
    fun _ m rel => ⟨rfl, loads8_of_load8 fun s => branchClear_eq _ m rel s⟩⟩

/-! ## Tests of a byte -/

theorem mmReg_of_inRam {a : Word} (h : InRam a) : mmReg a = none := by
  refine Option.eq_none_iff_forall_ne_some.mpr fun r hr => ?_
  rw [eq_mmAddr_of_mmReg hr] at h
  exact not_inRam_mmAddr r h

theorem load8_of_not_readable {ea : Word} (f : Byte → State → State) (s : State) (h : ¬ Readable ea) :
    load8 ea f s = .fault (.invalidAccess ea) := by
  rw [load8, read8_of_not_readable s h, andThen_fault]

theorem tests8_of_testByte {i : Instr} {ea : State → Word} (h : ∀ s, exec i s = testByte (ea s) s) : Tests8 i ea := by
  intro s
  rw [h, testByte]
  refine ⟨fun hram => ?_, fun hram hread => ?_, fun hread => ?_⟩
  · rw [mmReg_of_inRam hram]
    exact load8_inRam testFlags s hram
  · obtain ⟨r, hr⟩ := mmReg_of_readable hram hread
    rw [hr]
  · rw [mmReg_of_not_readable hread]
    exact load8_of_not_readable testFlags s hread

/-- Settles O45: on memory, by whether the address is RAM, a register or neither. -/
theorem tstResults : Obligations.TstResults :=
  ⟨⟨rfl, fun _ => rfl⟩, ⟨rfl, fun _ => rfl⟩, fun _ => ⟨rfl, tests8_of_testByte fun _ => rfl⟩,
    fun _ => ⟨rfl, tests8_of_testByte fun _ => rfl⟩⟩

/-! ## Stores of a byte -/

/-- Settles O44: memory is written and not read. -/
theorem clrResults : Obligations.ClrResults :=
  ⟨⟨rfl, fun _ => rfl⟩, ⟨rfl, fun _ => rfl⟩,
    fun _ => ⟨rfl, stores_of_write8 (g := fun _ t => t.setCcr (clrByte 0 t.ccr).2) (fun _ _ _ _ => rfl) fun _ => rfl⟩,
    fun _ => ⟨rfl, stores_of_write8 (g := fun _ t => t.setCcr (clrByte 0 t.ccr).2) (fun _ _ _ _ => rfl) fun _ => rfl⟩⟩

/-- Settles O48: BCLR and BSET modify a byte, MOV stores one, JMP sets PC. -/
theorem bitClearSetMovAndJmpResults : Obligations.BitClearSetMovAndJmpResults := by
  have hmove : ∀ m : Byte, SameAfterWrites (fun _ t => t.setCcr (t.ccr.logic m)) fun t => { t with ccr := logicCcr t.ccr m } :=
    fun _ _ _ _ _ => rfl
  exact ⟨fun _ _ => ⟨rfl, modifies8_of_rmw8 fun _ => rfl⟩, fun _ _ => ⟨rfl, modifies8_of_rmw8 fun _ => rfl⟩,
    fun _ _ => ⟨rfl, modifies8_of_rmw8 fun _ => rfl⟩, fun _ _ => ⟨rfl, modifies8_of_rmw8 fun _ => rfl⟩,
    fun _ m => ⟨rfl, stores_of_write8 (hmove m) fun _ => rfl⟩, fun _ m => ⟨rfl, stores_of_write8 (hmove m) fun _ => rfl⟩,
    fun _ => ⟨rfl, fun _ => rfl⟩, fun _ => ⟨rfl, fun _ => rfl⟩⟩

theorem exec_staaIxp (s : State) : exec (.staaIxp none) s = postInc 1 (staAcc .a s.ix s) := rfl

/-- Settles O51: an accumulator stored is as it was when its flags are taken. -/
theorem eightBitStoreResults : Obligations.EightBitStoreResults := by
  have hsame : ∀ r : Acc, SameAfterWrites (fun s t => t.setCcr (t.ccr.logic (s.acc r))) fun t =>
      { t with ccr := logicCcr t.ccr (t.acc r) } := by
    rintro (_ | _) <;> exact fun _ _ _ _ => rfl
  refine ⟨⟨rfl, stores_of_write8 (g := fun s t => advanceIx 1 (t.setCcr (t.ccr.logic s.a))) (fun _ _ _ _ => rfl) fun s => ?_⟩,
    stores8_of_write8 (hsame .a) ?_ ?_ ?_, stores8_of_write8 (hsame .b) ?_ ?_ ?_⟩
  case refine_1 =>
    rw [exec_staaIxp, postInc, staAcc, andThen_assoc]
    rfl
  all_goals exact fun _ => ⟨rfl, fun _ => rfl⟩

/-! ## Arithmetic and logic on a byte -/

/-- Settles O49: five instructions on A, five on B, each one operation in all its forms. -/
theorem eightBitArithmeticResults : Obligations.EightBitArithmeticResults := by
  refine ⟨?_, ?_, ?_, ?_, ?_, ?_, ?_, ?_, ?_, ?_⟩
  iterate 5
    exact onA_of_load8 ⟨rfl, fun _ => rfl⟩ (fun _ => ⟨rfl, fun _ => rfl⟩) (fun _ => ⟨rfl, fun _ => rfl⟩)
      (fun _ => ⟨rfl, fun _ => rfl⟩) (fun _ => ⟨rfl, fun _ => rfl⟩)
  iterate 5
    exact onB_of_load8 (fun _ => ⟨rfl, fun _ => rfl⟩) (fun _ => ⟨rfl, fun _ => rfl⟩) (fun _ => ⟨rfl, fun _ => rfl⟩)
      (fun _ => ⟨rfl, fun _ => rfl⟩)

/-- Settles O50: five instructions on A, four on B, each one operation in all its forms. -/
theorem eightBitLogicResults : Obligations.EightBitLogicResults := by
  refine ⟨?_, ?_, ?_, ?_, ?_, ?_, ?_, ?_, ?_⟩
  iterate 5
    exact onA_of_load8 ⟨rfl, fun _ => rfl⟩ (fun _ => ⟨rfl, fun _ => rfl⟩) (fun _ => ⟨rfl, fun _ => rfl⟩)
      (fun _ => ⟨rfl, fun _ => rfl⟩) (fun _ => ⟨rfl, fun _ => rfl⟩)
  iterate 4
    exact onB_of_load8 (fun _ => ⟨rfl, fun _ => rfl⟩) (fun _ => ⟨rfl, fun _ => rfl⟩) (fun _ => ⟨rfl, fun _ => rfl⟩)
      (fun _ => ⟨rfl, fun _ => rfl⟩)

/-! ## Words -/

/-- Settles O52: H is the free value drawn. -/
theorem sixteenBitArithmeticResults : Obligations.SixteenBitArithmeticResults := by
  have hsub : ∀ (w : Word) (s : State), ∃ h, subD w s = { s with
      a := hiByte (subFlags (joinBytes s.a s.b) w false).r, b := loByte (subFlags (joinBytes s.a s.b) w false).r
      ccr := { arithCcr s.ccr (subFlags (joinBytes s.a s.b) w false) with h := h }, draws := s.draws + 1 } :=
    fun _ s => ⟨Config.freeBit s.draws, rfl⟩
  have hadd : ∀ (w : Word) (s : State), ∃ h, addD w s = { s with
      a := hiByte (addFlags (joinBytes s.a s.b) w false).r, b := loByte (addFlags (joinBytes s.a s.b) w false).r
      ccr := { arithCcr s.ccr (addFlags (joinBytes s.a s.b) w false) with h := h }, draws := s.draws + 1 } :=
    fun _ s => ⟨Config.freeBit s.draws, rfl⟩
  have hcompare : ∀ (r : Reg16) (w : Word) (s : State), ∃ h, compare16 r w s = { s with
      ccr := { arithCcr s.ccr (subFlags (s.reg16 r) w false) with h := h }, draws := s.draws + 1 } :=
    fun _ _ s => ⟨Config.freeBit s.draws, rfl⟩
  refine ⟨ixp16_of_load16 hsub ⟨rfl, fun _ => rfl⟩, on16_of_load16 hsub ?_ ?_ ?_ ?_,
    ixp16_of_load16 hadd ⟨rfl, fun _ => rfl⟩, on16_of_load16 hadd ?_ ?_ ?_ ?_,
    ixp16_of_load16 (hcompare .d) ⟨rfl, fun _ => rfl⟩, on16_of_load16 (hcompare .d) ?_ ?_ ?_ ?_,
    on16_of_load16 (hcompare .ix) ?_ ?_ ?_ ?_⟩ <;>
    exact fun _ => ⟨rfl, fun _ => rfl⟩

/-- Settles O53: a register loaded with a word, or stored as one and as it was when its flags are taken. -/
theorem sixteenBitLoadAndStoreResults : Obligations.SixteenBitLoadAndStoreResults := by
  have hload : ∀ (r : Reg16) (w : Word) (s : State), ∃ _ : Bool, loadReg16 r w s = (s.setReg16 r w).setCcr (logicCcr s.ccr w) :=
    fun _ _ _ => ⟨false, rfl⟩
  have hstore : ∀ r : Reg16, SameAfterWrites (fun s t => t.setCcr (t.ccr.logic (s.reg16 r))) fun t =>
      { t with ccr := logicCcr t.ccr (t.reg16 r) } := by
    rintro (_ | _ | _) <;> exact fun _ _ _ _ => rfl
  refine ⟨on16_of_load16 (hload .sp) ?_ ?_ ?_ ?_, on16_of_load16 (hload .ix) ?_ ?_ ?_ ?_, on16_of_load16 (hload .d) ?_ ?_ ?_ ?_,
    stores16_of_write16 (hstore .sp) ?_ ?_ ?_, stores16_of_write16 (hstore .ix) ?_ ?_ ?_,
    stores16_of_write16 (hstore .d) ?_ ?_ ?_⟩ <;>
    exact fun _ => ⟨rfl, fun _ => rfl⟩

/-! ## The stack -/

/-- A byte pulled is a byte read above SP, which goes up by 1 (R12). -/
theorem andThen_pull8 (f : Byte → State → State) (s : State) :
    andThen (pull8 s) (fun p => .next (f p.1 p.2)) = load8 (s.sp + 1) (fun v t => f v (t.setSp (t.sp + 1))) s := by
  rw [pull8, (offRead_setSp _).read8, andThen_assoc, load8]
  refine andThen_congr fun p hp => ?_
  obtain ⟨n, hn⟩ := read8_next_drew (v := p.1) (t := p.2) hp
  rw [andThen_next, hn]
  rfl

/-- A word pulled is a word read above SP, which goes up by 2 (R12). -/
theorem andThen_pull16 (f : Word → State → State) (s : State) :
    andThen (pull16 s) (fun p => .next (f p.1 p.2)) = load16 (s.sp + 1) (fun w t => f w (t.setSp (t.sp + 2))) s := by
  rw [pull16_eq, andThen_assoc, load16]
  refine andThen_congr fun p hp => ?_
  obtain ⟨n, hn⟩ := read16_next_drew (w := p.1) (t := p.2) hp
  rw [andThen_next, hn]
  rfl

/-- Settles O40: a push is a store at SP and below, a pull a load above it. -/
theorem pushAndPullResults : Obligations.PushAndPullResults := by
  have hbyte : SameAfterWrites (fun s t => t.setSp (s.sp - 1)) fun t => { t with sp := t.sp - 1 } := fun _ _ _ _ => rfl
  have hword : SameAfterWrites (fun s t => t.setSp (s.sp - 2)) fun t => { t with sp := t.sp - 2 } := fun _ _ _ _ => rfl
  exact ⟨⟨rfl, stores_of_write8 hbyte fun s => push8_eq s.a s⟩, ⟨rfl, stores_of_write8 hbyte fun s => push8_eq s.b s⟩,
    ⟨rfl, stores_of_storeCells hword fun s => push16_eq s.ix s⟩,
    ⟨rfl, loads8_of_load8 fun s => andThen_pull8 (fun v t => t.setA v) s⟩,
    ⟨rfl, loads8_of_load8 fun s => andThen_pull8 (fun v t => t.setB v) s⟩,
    ⟨rfl, loads16_of_load16 (fun s => andThen_pull16 (fun w t => t.setIx w) s) fun _ _ => ⟨false, rfl⟩⟩,
    ⟨rfl, loads16_of_load16 (fun s => andThen_pull16 (fun w t => t.setPc w) s) fun _ _ => ⟨false, rfl⟩⟩⟩

/-- A call pushes the return address and goes to its target, computed before the push (R311, R312). -/
theorem stores_of_callAt {i : Instr} {target : State → Word} {f : State → State}
    (hf : SameAfterWrites (fun s t => (t.setSp (s.sp - 2)).setPc (target s)) f) (h : ∀ s, exec i s = callAt (target s) s) :
    Stores i (fun s => pushCells s.pc s) f :=
  stores_of_storeCells hf fun s => (h s).trans (callAt_eq (target s))

/-- Settles O54: each call is `callAt` of its target. -/
theorem callResults : Obligations.CallResults :=
  ⟨fun rel => ⟨rfl, stores_of_callAt (target := fun s => s.pc + rel.signExtend 16) (fun _ _ _ _ => rfl) fun _ => rfl⟩,
    fun d => ⟨rfl, stores_of_callAt (target := fun _ => dirAddr d) (fun _ _ _ _ => rfl) fun _ => rfl⟩,
    fun off => ⟨rfl, stores_of_callAt (target := ixAddr off) (fun _ _ _ _ => rfl) fun _ => rfl⟩,
    fun ad => ⟨rfl, stores_of_callAt (target := fun _ => ad) (fun _ _ _ _ => rfl) fun _ => rfl⟩⟩

end Sys2Proof.Machine
end

section
/-! O34, O42 and O43. Multiplication and division (40_control_inherent.md R143, R144), and the one-operand instructions
(43_read_modify_write.md R216 to R242). -/

namespace Sys2Proof.Machine

open Sys2Proof.Safety

/-! ## MUL and IDIV -/

/-- The product of two bytes fits in a word (R144). -/
theorem toNat_mulWord (a b : Byte) : (mulWord a b).toNat = a.toNat * b.toNat := by
  have hlt : a.toNat * b.toNat < 2 ^ 8 * 2 ^ 8 := Nat.mul_lt_mul'' a.isLt b.isLt
  rw [mulWord, BitVec.toNat_mul, BitVec.toNat_setWidth_of_le (by decide), BitVec.toNat_setWidth_of_le (by decide)]
  exact Nat.mod_eq_of_lt hlt

theorem exec_idiv (s : State) : exec .idiv s = .next (divide s) := rfl

/-- Settles O34: the product fits, and quotient and remainder are those of the natural numbers. -/
theorem mulAndIdivResults : Obligations.MulAndIdivResults := by
  refine ⟨⟨rfl, fun s => ⟨Config.freeByte s.draws, mulWord s.a s.b, toNat_mulWord s.a s.b, rfl⟩⟩, rfl,
    fun s => ⟨fun hb => ?_, fun hb => ?_⟩⟩
  · have hpos : 0 < s.b.toNat := Nat.pos_of_ne_zero fun h => hb (BitVec.eq_of_toNat_eq h)
    refine ⟨Config.freeByte s.draws, s.a / s.b, s.a % s.b, ?_, ?_, ?_⟩
    · rw [BitVec.toNat_udiv, BitVec.toNat_umod, Nat.div_add_mod]
    · rw [BitVec.toNat_umod]
      exact Nat.mod_lt _ hpos
    · rw [exec_idiv, divide, if_neg hb]
      rfl
  · refine ⟨Config.freeByte (s.draws + 2), Config.freeByte s.draws, Config.freeByte (s.draws + 1), ?_⟩
    rw [exec_idiv, divide, if_pos hb]
    rfl

/-! ## One-operand operations on a byte -/

theorem negByte_eq : negByte = fun m f => (-m, { f with
    c := decide (m ≠ 0), v := decide (m = 0x80), n := (-m).msb, z := decide (m = 0) }) := by
  funext m f
  have hneg : 0 - m = -m := by bv_omega
  have hv : (-m = 0x80) = (m = 0x80) := propext (by bv_omega)
  have hz : (-m = 0) = (m = 0) := propext (by bv_omega)
  simp only [negByte, hneg, hv, hz]

theorem incByte_eq : incByte = fun m f => (m + 1, incCcr f (m + 1) (decide (m = 0x7F))) := by
  funext m f
  have hv : (m + 1 = 0x80) = (m = 0x7F) := propext (by bv_omega)
  simp only [incByte, hv]
  rfl

theorem decByte_eq : decByte = fun m f => (m - 1, incCcr f (m - 1) (decide (m = 0x80))) := by
  funext m f
  have hv : (m - 1 = 0x7F) = (m = 0x80) := propext (by bv_omega)
  simp only [decByte, hv]
  rfl

/-- Settles O42: the operations in the spec's own form. -/
theorem negIncDecResults : Obligations.NegIncDecResults := by
  unfold Obligations.NegIncDecResults
  rw [← negByte_eq, ← incByte_eq, ← decByte_eq]
  refine ⟨?_, ?_, ?_⟩ <;>
    exact oneOperand_of_rmw ⟨rfl, fun _ => rfl⟩ ⟨rfl, fun _ => rfl⟩ (fun _ => ⟨rfl, fun _ => rfl⟩)
      (fun _ => ⟨rfl, fun _ => rfl⟩)

/-- A bit shifted in at the top. -/
theorem cons_extractLsb'_eq (c : Bool) (m : Byte) :
    (BitVec.cons c (m.extractLsb' 1 7) : Byte) = (m >>> 1) ||| (if c then 0x80 else 0) := by
  ext i hi
  have htop : (if c then 0x80 else 0 : Byte)[i] = (decide (i = 7) && c) := by
    cases c
    · simp
    · rw [if_pos rfl, show (0x80 : Byte) = BitVec.twoPow 8 7 from rfl, BitVec.getElem_twoPow, Bool.and_true]
  rw [BitVec.getElem_cons, BitVec.getElem_or, BitVec.getElem_ushiftRight, htop]
  by_cases h7 : i = 7
  · subst h7
    simp
  · have hlt : 1 + i < 8 := by omega
    simp [h7, hlt]

theorem cons_msb_eq_sshiftRight (m : Byte) : (BitVec.cons m.msb (m.extractLsb' 1 7) : Byte) = m.sshiftRight 1 := by
  ext i hi
  rw [BitVec.getElem_cons, BitVec.getElem_sshiftRight]
  by_cases h7 : i = 7
  · subst h7
    simp
  · have hlt : 1 + i < 8 := by omega
    simp [h7, hlt]

/-- A bit shifted in at the bottom. -/
theorem concat_extractLsb'_eq (c : Bool) (m : Byte) :
    (BitVec.concat (m.extractLsb' 0 7) c : Byte) = m + m + (if c then 1 else 0) := by
  apply BitVec.eq_of_toNat_eq
  rw [BitVec.toNat_concat, BitVec.extractLsb'_toNat, BitVec.toNat_add, BitVec.toNat_add]
  have := m.isLt
  cases c <;> simp <;> omega

theorem lsrByte_eq : lsrByte = fun (m : Byte) (f : Ccr) => (m >>> 1, shiftCcr f (m >>> 1) (m.getLsbD 0)) := by
  funext m f
  have hr : (BitVec.cons false (m.extractLsb' 1 7) : Byte) = m >>> 1 := by simp [cons_extractLsb'_eq]
  rw [lsrByte, hr]
  rfl

theorem rorByte_eq : rorByte = fun (m : Byte) (f : Ccr) =>
    let r := (m >>> 1) ||| (if f.c then 0x80 else 0)
    (r, shiftCcr f r (m.getLsbD 0)) := by
  funext m f
  rw [rorByte, cons_extractLsb'_eq]
  rfl

theorem asrByte_eq : asrByte = fun (m : Byte) (f : Ccr) => (m.sshiftRight 1, shiftCcr f (m.sshiftRight 1) (m.getLsbD 0)) := by
  funext m f
  rw [asrByte, cons_msb_eq_sshiftRight]
  rfl

theorem lslByte_eq : lslByte = fun (m : Byte) (f : Ccr) => (m + m, shiftCcr f (m + m) (m.getLsbD 7)) := by
  funext m f
  have hr : (BitVec.concat (m.extractLsb' 0 7) false : Byte) = m + m := by simp [concat_extractLsb'_eq]
  rw [lslByte, hr, BitVec.msb_eq_getLsbD_last]
  rfl

theorem rolByte_eq : rolByte = fun (m : Byte) (f : Ccr) =>
    let r := m + m + (if f.c then 1 else 0)
    (r, shiftCcr f r (m.getLsbD 7)) := by
  funext m f
  rw [rolByte, concat_extractLsb'_eq, BitVec.msb_eq_getLsbD_last]
  rfl

/-- Settles O43: a byte moved one place is a shift with a bit put in at one end. -/
theorem shiftAndRotateResults : Obligations.ShiftAndRotateResults := by
  unfold Obligations.ShiftAndRotateResults
  rw [← lsrByte_eq, ← rorByte_eq, ← asrByte_eq, ← lslByte_eq, ← rolByte_eq]
  refine ⟨?_, ?_, ?_, ?_, ?_⟩ <;>
    exact oneOperand_of_rmw ⟨rfl, fun _ => rfl⟩ ⟨rfl, fun _ => rfl⟩ (fun _ => ⟨rfl, fun _ => rfl⟩)
      (fun _ => ⟨rfl, fun _ => rfl⟩)

end Sys2Proof.Machine
end
